-- ==== Sys2Proof/Word.lean ====
section
/-! DEFINITION. The word types of the TW-48. -/

namespace Sys2Proof

/-- A ring character's data byte, a frame byte, a byte of a table entry (R8, chapter 10). -/
abbrev Byte := BitVec 8

/-- The encoder count and every conveyor position: 32 bits, wrapping (R45). -/
abbrev Count := BitVec 32

/-- A counter: 32 bits, wrapping from 4294967295 to 0 (R26, R39, R56, R87, R117, R139, R170, R181, R194). -/
abbrev Counter := BitVec 32

/-- A can's serial, 0 to 4095, wrapping (R63). -/
abbrev Serial := BitVec 12

/-- A valve's generation, 0 to 255, wrapping (R153); also the tag of an exchange (R159). -/
abbrev Generation := BitVec 8

/-- A moment or a length of time on the part's timebase, in units of 125 ns: the bit time at 8 Mbit/s (R1, Table 1-2). -/
abbrev Ticks := Nat

end Sys2Proof
end

