-- ==== Sys2Proof/Config.lean ====
section
/-! DEFINITION. What the TW-48 fixes: its capacities (Table I-3), the size of the clock unit, and the constants of its
timers. The spec leaves no value open, so there is no free value here. -/

namespace Sys2Proof.Config

/-- Clock units in a microsecond. DESIGN CHOICE (log 2): the unit is 125 ns. -/
def ticksPerUs : Ticks := 8

/-- Clock units in a millisecond. -/
def ticksPerMs : Ticks := 8000

/-- Clock units in a second. -/
def ticksPerSecond : Ticks := 8000000

/-- The 20 ms boundary between a resync and a line reset (R1, R6). -/
def longBreakTicks : Ticks := 20 * ticksPerMs

/-- Bit periods in a ring character (R1). -/
def ringCharacterBits : Nat := 11

/-- Character times of the inter-character timeout (R13). -/
def interCharacterTimeout : Nat := 8

/-- Character times of the transmitter's idle gap (R22). -/
def gapCharacters : Nat := 2

/-- Bit times of a code port character (R124). -/
def codeCharacterBits : Nat := 10

/-- The trigger character (R128). -/
def triggerCharacter : Byte := 0x54

/-- Character times of idle that end a read (R126). -/
def readIdleCharacters : Nat := 2

/-- Bits of a sample frame (R89). -/
def sampleFrameBits : Nat := 32

/-- Nominal sample periods of the loss timer (R91). -/
def lossPeriods : Nat := 4

/-- Forward Queue capacity (R18). -/
def forwardCapacity : Nat := 4

/-- Urgent Queue capacity (R19). -/
def urgentCapacity : Nat := 8

/-- Routine Queue capacity (R21). -/
def routineCapacity : Nat := 8

/-- Longest payload of a frame (R14). -/
def maxPayload : Nat := 56

/-- Positions of the Pass Rule List (R31). -/
def passRules : Nat := 16

/-- Tracking Queue capacity (R60). -/
def trackingCapacity : Nat := 128

/-- Learned-distance list capacity (R69). -/
def learnedCapacity : Nat := 16

/-- Learned distances needed for a learned distance to exist (R70). -/
def learnedNeeded : Nat := 4

/-- Product Table entries (R141). -/
def products : Nat := 16

/-- Valve Table entries (R148). -/
def valves : Nat := 48

/-- Receive FIFO capacity (R130). -/
def fifoCapacity : Nat := 32

/-- Characters of a printed code (Table 6-2). -/
def codeLength : Nat := 16

/-- Most samples in a window's sum (R100). -/
def sumCapacity : Nat := 1024

/-- Samples of a zero capture (R106). -/
def captureSamples : Nat := 256

/-- Quiet blocks of a zero-tracking run (R108). -/
def trackingRunBlocks : Nat := 64

/-- Least net reported, in cg (R102). -/
def netLeast : Int := -100000

/-- Greatest net reported, in cg (R102). -/
def netMost : Int := 999999

/-- Least converter sample and least zero (R90, R111). -/
def sampleLeast : Int := -8388608

/-- Greatest converter sample and greatest zero (R90, R111). -/
def sampleMost : Int := 8388607

/-- Most bytes of read entries a REPLY holds (R185). -/
def readBytes : Nat := 50

/-- The silicon revision byte (R182). -/
def revision : Byte := 1

/-- The broadcast station (00_scope.md). -/
def broadcast : Byte := 63

end Sys2Proof.Config
end

