-- ==== Sys2Proof/Syntax.lean ====
section
/-! DEFINITION. The commands the TW-48 takes: one constructor of Instr for each row of spec/opcode_table.json, with the
operands that the row's rule names. -/

namespace Sys2Proof

/-- What the pins show at the end of a hard reset: the station straps STN5..STN0 (R182), the rate straps RATE1, RATE0
(R1), and the levels of Ring In (R25), CODE (R138), the encoder pair (R43) and the five discrete inputs (R42). -/
structure Pins where
  station : BitVec 6
  rate : BitVec 2
  ringIn : Bool
  code : Bool
  encA : Bool
  encB : Bool
  discharge : Bool
  home : Bool
  pocket : Bool
  platformEye : Bool
  confirmEye : Bool
  deriving DecidableEq, Repr

/-- The five discrete inputs (R40). -/
inductive Input where
  | discharge
  | home
  | pocket
  | platformEye
  | confirmEye
  deriving DecidableEq, Repr

/-- The inputs that have a filter time: the five discrete inputs (R41) and the encoder pair (R43). -/
inductive FilterInput where
  | discrete (input : Input)
  | encoder
  deriving DecidableEq, Repr

/-- A character as the ring receiver samples it (R3): each of its eleven bits taken three times, bit 0 the start bit,
bits 1 to 8 the data, bit 9 the mark, bit 10 the stop bit; and whether Ring In is low at the end of the stop bit
period (R4). -/
structure RingSamples where
  first : BitVec 11
  second : BitVec 11
  third : BitVec 11
  lowAtEnd : Bool
  deriving DecidableEq, Repr

/-- A character as the code port receiver samples it (R124): each of its ten bits taken three times, bit 0 the start
bit, then the data bits and in 7E1 the parity bit, bit 9 the stop bit; and whether the line is low at the end of the
stop bit period (R125). -/
structure CodeSamples where
  first : BitVec 10
  second : BitVec 10
  third : BitVec 10
  lowAtEnd : Bool
  deriving DecidableEq, Repr

/-- The two moments of a character on the code port (R124, R126): the falling edge that begins it, and the end of its
stop bit period, at which it is delivered. -/
inductive CodePart where
  | falls
  | ends (c : CodeSamples)
  deriving DecidableEq, Repr

/-- What the sample port sees of a frame (R89): a rising edge of SMP SYNC, a rising edge of SMP CLK with the level of SMP
DATA, or a whole frame of 32 bits, its first bit the most significant (log 20). -/
inductive SamplePart where
  | sync
  | clk (data : Bool)
  | frame (w : BitVec 32)
  deriving DecidableEq, Repr

/-- The four weighing settings that discard the zero-tracking run (R110, R115). -/
inductive WeighingSetting where
  | blockSize
  | settleBand
  | zeroTracking
  | zeroBand
  deriving DecidableEq, Repr

/-- The two settings of the code port's configuration (R123). -/
inductive CodePortSetting where
  | rate
  | format
  deriving DecidableEq, Repr

/-- One constructor per row of spec/opcode_table.json. Requests carry the source station of their frame (R183); a table
write carries its first index, its count and the bytes of its entries (R186); a write of one setting carries that
setting's entry, eight bytes low byte first (Table 10-10). -/
inductive Instr where
  /-- HARD_RESET (R25): power-up, or the end of a low on RESET, with the pins as read. -/
  | hardReset (pins : Pins)
  /-- RING_CHARACTER (R8): a character as sampled on Ring In. -/
  | ringCharacter (c : RingSamples)
  /-- FRAME_COMPLETE (R9): the second check byte is delivered, sound and without a mark bit. -/
  | frameComplete (data : Byte) (noisy : Bool)
  /-- INTER_CHARACTER_TIMEOUT (R13): the timer expires, Ring In having been low for `low` clock units, which do not count,
  since the timer last started (log 31). -/
  | interCharacterTimeout (low : Nat := 0)
  /-- BREAK (R5): a break is detected on Ring In. -/
  | ringBreak
  /-- RESYNC (R5): the break ends, having lasted `len` clock units, less than 20 ms. -/
  | resync (len : Nat)
  /-- LONG_BREAK (R6): the break has lasted 20 ms. -/
  | longBreak
  /-- GAP (R22): the transmitter's idle gap expires. -/
  | gap
  /-- FRAME_SENT (R23): the last stop bit of the frame in SENDING ends. -/
  | frameSent
  /-- RELAY_END (R7). -/
  | relayEnd
  /-- NOTICE_RETRY (R192): the retry that a departure from the Routine Queue makes due. -/
  | noticeRetry
  /-- INPUT_PIN_CHANGE (R40): a discrete input's pin takes a level. -/
  | inputPinChange (input : Input) (level : Bool)
  /-- DISCHARGE (R51): DISCHARGE has held high for its filter time. -/
  | discharge
  /-- HOME_EDGE (R48): HOME has held high for its filter time. -/
  | homeEdge
  /-- POCKET_CHANGE (R52): POCKET has held its new level for its filter time. -/
  | pocketChange
  /-- ARRIVAL (R53): PLATFORM EYE has held high for its filter time. `withStep`: the encoder step that the encoder filter
  is accepting falls together with it, and the arrival is stamped with the count after that step and taken before the
  step's position event (R46, R79, log 21). -/
  | arrival (withStep : Bool := false)
  /-- CONFIRM_EVENT (R175): CONFIRM EYE has held high for its filter time. -/
  | confirmEvent
  /-- ENCODER_PIN_CHANGE (R43): the encoder pins take the pair (a, b). -/
  | encoderPinChange (a b : Bool)
  /-- ENCODER_STEP (R43): the encoder pins have held one pair for the filter time. -/
  | encoderStep
  /-- SAMPLE_FRAME (R89, R90): a frame begins, takes a bit, or completes with its 32 bits. -/
  | sampleFrame (p : SamplePart)
  /-- SHORT_FRAME (R89): SMP SYNC rises before 32 bits have been taken. -/
  | shortFrame
  /-- SAMPLE_LOSS (R91): the loss timer expires. -/
  | sampleLoss
  /-- CODE_CHARACTER (R124): a character begins or ends on the code port. -/
  | codeCharacter (p : CodePart)
  /-- CODE_BREAK (R133): a break is detected on the code port. -/
  | codeBreak
  /-- CODE_BREAK_END (R125): the line returns high after a break. -/
  | codeBreakEnd
  /-- IDLE_TIMER_EXPIRY (R126). -/
  | idleTimerExpiry
  /-- TRIGGER_SENT (R129): the trigger's stop bit period ends, with the line high or low. -/
  | triggerSent (lineHigh : Bool)
  /-- EXCHANGE_TIMEOUT (R165): the exchange timer of a valve expires. -/
  | exchangeTimeout (valve : Byte)
  /-- REJECT_PULSE_EXPIRY (R174). -/
  | rejectPulseExpiry
  /-- FILL_ACK (R163): a FILL ACK is handed over, with its four payload bytes. -/
  | fillAck (op tag valve status : Byte)
  /-- UNKNOWN_KIND_REQUEST (R183): a frame of another kind from source 0 is handed over. -/
  | unknownKindRequest (kind : Byte)
  /-- IDENTIFY (R182). -/
  | identify (src : Byte) (data : List Byte)
  /-- TABLE_READ (R185), with its whole payload. -/
  | tableRead (src : Byte) (data : List Byte)
  /-- STATIONS_WRITE (R187). -/
  | stationsWrite (src first count : Byte) (data : List Byte)
  /-- DISTANCES_WRITE (R68). -/
  | distancesWrite (src first count : Byte) (data : List Byte)
  /-- PASS_RULES_WRITE (R31). -/
  | passRulesWrite (src first count : Byte) (data : List Byte)
  /-- PRODUCTS_WRITE (R142). -/
  | productsWrite (src first count : Byte) (data : List Byte)
  /-- VALVE_MODE_WRITE (R168). -/
  | valveModeWrite (src first count : Byte) (data : List Byte)
  /-- TEST_WEIGHTS_WRITE (R114). -/
  | testWeightsWrite (src first count : Byte) (data : List Byte)
  /-- EVENTS_WRITE (R191). -/
  | eventsWrite (src first count : Byte) (data : List Byte)
  /-- VALVE_COUNT_WRITE (R150): SETTINGS entry 2. -/
  | valveCountWrite (src : Byte) (entry : BitVec 64)
  /-- FILTER_TIME_WRITE (R41, R43): one of SETTINGS entries 3 to 8. -/
  | filterTimeWrite (src : Byte) (which : FilterInput) (entry : BitVec 64)
  /-- SAMPLE_RATE_WRITE (R92): SETTINGS entry 9. -/
  | sampleRateWrite (src : Byte) (entry : BitVec 64)
  /-- WEIGHING_SETTINGS_WRITE (R115): one of SETTINGS entries 10 to 13. -/
  | weighingSettingsWrite (src : Byte) (which : WeighingSetting) (entry : BitVec 64)
  /-- CALIBRATION_FACTOR_WRITE (R103): SETTINGS entry 14. -/
  | calibrationFactorWrite (src : Byte) (entry : BitVec 64)
  /-- LOT_STRING_WRITE (R120): SETTINGS entry 16. -/
  | lotStringWrite (src : Byte) (entry : BitVec 64)
  /-- CODE_PORT_CONFIG_WRITE (R123): SETTINGS entry 17 or 18. -/
  | codePortConfigWrite (src : Byte) (which : CodePortSetting) (entry : BitVec 64)
  /-- CODE_PORT_ENABLE (R127): SETTINGS entry 19. -/
  | codePortEnable (src : Byte) (entry : BitVec 64)
  /-- SETTINGS_WRITE (R188): a TABLE WRITE to SETTINGS of any run of entries. -/
  | settingsWrite (src first count : Byte) (data : List Byte)
  /-- START (R58). -/
  | start (src : Byte)
  /-- STOP (R59). -/
  | stop (src : Byte)
  /-- LINE_RESET_ACTION (R189). -/
  | lineResetAction (src : Byte)
  /-- SELECT_PRODUCT (R145), with its product code. -/
  | selectProduct (src : Byte) (code : BitVec 16)
  /-- ZERO (R105). -/
  | zero (src : Byte)
  /-- CLEAR_STOP (R179). -/
  | clearStop (src : Byte)
  /-- CLEAR_EVENTS (R191), with its latch set. -/
  | clearEvents (src : Byte) (set : BitVec 32)
  /-- VALVE_RELEASE (R162). -/
  | valveRelease (src valve : Byte)
  /-- VALVE_CLEAR (R167). -/
  | valveClear (src valve : Byte)
  /-- TEST_ON (R112). -/
  | testOn (src : Byte)
  /-- TEST_OFF (R112). -/
  | testOff (src : Byte)
  /-- CLEAR_COUNTERS (R190). -/
  | clearCounters (src : Byte)
  /-- STOP_REQUEST (R179). -/
  | stopRequest (src : Byte)
  /-- RESET_ASSERTED (R25): the RESET pin falls. -/
  | resetAsserted
  /-- LONG_BREAK_END (R6): Ring In returns high, the long break having lasted `len` clock units. -/
  | longBreakEnd (len : Nat)
  /-- RING_FALSE_START (R3). -/
  | ringFalseStart
  /-- ACCEPTED_FALLING_EDGE (R40): an input has held low for its filter time. -/
  | acceptedFallingEdge (input : Input)
  /-- CODE_LINE_HIGH (R126). -/
  | codeLineHigh
  /-- BAD_TABLE_WRITE (R186), with its whole payload. -/
  | badTableWrite (src : Byte) (data : List Byte)
  /-- UNKNOWN_ACTION_CODE (R189), with its whole payload. -/
  | unknownActionCode (src : Byte) (data : List Byte)
  deriving DecidableEq, Repr

end Sys2Proof
end

