-- ==== Sys2Proof/WellFormed.lean ====
section
/-! DEFINITION. Which commands can come about at all: the bounds that the wire puts on their operands. -/

namespace Sys2Proof

/-- The payload of a frame is at most 56 bytes (R14). -/
def payloadFits (extra : Nat) (data : List Byte) : Bool :=
  data.length + extra ≤ Config.maxPayload

/-- The kinds that are not 'any other kind' of R30: FILL ACK and the four management requests. -/
def isHandledKind (k : Byte) : Bool :=
  k == 0x14 || k == 0x30 || k == 0x31 || k == 0x32 || k == 0x33

/-- A TABLE WRITE payload that belongs to BAD_TABLE_WRITE (R186, tests 1 and 2). -/
def isBadTableWrite (data : List Byte) : Bool :=
  data.length < 3 ||
    (match data with
     | t :: _ => t.toNat == 0 || t.toNat > 10 || t.toNat == 8 || t.toNat == 9
     | [] => true)

/-- The length of the argument that Table 9-6 gives for an action code; none for a code outside 1 to 13. -/
def actionArgumentLength (code : Byte) : Option Nat :=
  match code.toNat with
  | 4 => some 2
  | 7 => some 4
  | 8 | 9 => some 1
  | 1 | 2 | 3 | 5 | 6 | 10 | 11 | 12 | 13 => some 0
  | _ => none

/-- An ACTION payload that belongs to UNKNOWN_ACTION_CODE (R189). -/
def isBadAction (data : List Byte) : Bool :=
  match data with
  | [] => true
  | code :: arg => actionArgumentLength code != some arg.length

/-- Well-formedness of a command. A break that ends as a resync has lasted at least one character time of 11 bits and
less than 20 ms (R4, R5), a long break at least 20 ms (R6); an exchange timer belongs to a valve 1 to 48 (R148); an
unknown kind is none of the handled ones (R30); payloads fit a frame (R14). -/
def Instr.wf : Instr → Bool
  | .hardReset _ => true
  | .ringCharacter _ => true
  | .frameComplete _ _ => true
  | .interCharacterTimeout _ => true
  | .ringBreak => true
  | .resync len => Config.ringCharacterBits ≤ len && len < Config.longBreakTicks
  | .longBreak => true
  | .gap => true
  | .frameSent => true
  | .relayEnd => true
  | .noticeRetry => true
  | .inputPinChange _ _ => true
  | .discharge => true
  | .homeEdge => true
  | .pocketChange => true
  | .arrival _ => true
  | .confirmEvent => true
  | .encoderPinChange _ _ => true
  | .encoderStep => true
  | .sampleFrame _ => true
  | .shortFrame => true
  | .sampleLoss => true
  | .codeCharacter _ => true
  | .codeBreak => true
  | .codeBreakEnd => true
  | .idleTimerExpiry => true
  | .triggerSent _ => true
  | .exchangeTimeout v => 1 ≤ v.toNat && v.toNat ≤ Config.valves
  | .rejectPulseExpiry => true
  | .fillAck _ _ _ _ => true
  | .unknownKindRequest k => !isHandledKind k
  | .identify _ data => payloadFits 0 data
  | .tableRead _ data => payloadFits 0 data
  | .stationsWrite _ _ _ data => payloadFits 3 data
  | .distancesWrite _ _ _ data => payloadFits 3 data
  | .passRulesWrite _ _ _ data => payloadFits 3 data
  | .productsWrite _ _ _ data => payloadFits 3 data
  | .valveModeWrite _ _ _ data => payloadFits 3 data
  | .testWeightsWrite _ _ _ data => payloadFits 3 data
  | .eventsWrite _ _ _ data => payloadFits 3 data
  | .valveCountWrite _ _ => true
  | .filterTimeWrite _ _ _ => true
  | .sampleRateWrite _ _ => true
  | .weighingSettingsWrite _ _ _ => true
  | .calibrationFactorWrite _ _ => true
  | .lotStringWrite _ _ => true
  | .codePortConfigWrite _ _ _ => true
  | .codePortEnable _ _ => true
  | .settingsWrite _ _ _ data => payloadFits 3 data
  | .start _ => true
  | .stop _ => true
  | .lineResetAction _ => true
  | .selectProduct _ _ => true
  | .zero _ => true
  | .clearStop _ => true
  | .clearEvents _ _ => true
  | .valveRelease _ _ => true
  | .valveClear _ _ => true
  | .testOn _ => true
  | .testOff _ => true
  | .clearCounters _ => true
  | .stopRequest _ => true
  | .resetAsserted => true
  | .longBreakEnd len => Config.longBreakTicks ≤ len
  | .ringFalseStart => true
  | .acceptedFallingEdge _ => true
  | .codeLineHigh => true
  | .badTableWrite _ data => payloadFits 0 data && isBadTableWrite data
  | .unknownActionCode _ data => payloadFits 0 data && isBadAction data

end Sys2Proof
end

