-- ==== Sys2Proof/Decode.lean ====
section
/-! DEFINITION. The decoder of a block whose opcode table gives no row any bits. -/

namespace Sys2Proof

/-- The command that a word spells by the table's bits. spec/opcode_table.json gives bits to none of its 69 rows, so no
word spells a command: the answer is none for every word. -/
def decodeTableWord (nbits w : Nat) : Option Instr :=
  match nbits, w with
  | _, _ => none

end Sys2Proof
end

