-- ==== Sys2Proof/Machine/State.lean ====
section
/-! DEFINITION. The state of the TW-48, block by block, as plain data, and the machine right after reset. -/

namespace Sys2Proof.Machine

/-- Why the machine stops with a fault: nothing does. The spec counts, latches or answers every error it names and stops
on none, so the type has no constructor and no step answers a fault (log 25: safe). -/
inductive Fault where
  deriving DecidableEq, Repr

/-- Why the machine gives no answer. -/
inductive Refusal where
  /-- Raised by exec's arm of a command that has no meaning yet. Safe. No arm of this model raises it. -/
  | notModelled (mnemonic : String)
  deriving DecidableEq, Repr

/-! ## Ring Port (chapter 1) -/

/-- The ring rate of the RATE straps (R1, Table 1-2). -/
inductive RingRate where
  | mbit1
  | mbit2
  | mbit4
  | mbit8
  deriving DecidableEq, Repr

/-- Clock units in a bit time (Table 1-2). -/
def RingRate.bitTicks : RingRate → Ticks
  | .mbit1 => 8
  | .mbit2 => 4
  | .mbit4 => 2
  | .mbit8 => 1

/-- Clock units in a character time (R1). -/
def RingRate.characterTicks (r : RingRate) : Ticks :=
  Config.ringCharacterBits * r.bitTicks

/-- The rate in Mbit/s, as SETTINGS entry 1 reads it (section 10.3). -/
def RingRate.mbits : RingRate → Nat
  | .mbit1 => 1
  | .mbit2 => 2
  | .mbit4 => 4
  | .mbit8 => 8

/-- The rate that the RATE1, RATE0 straps name (Table 1-2), RATE1 the more significant. -/
def RingRate.ofStraps (b : BitVec 2) : RingRate :=
  match b.toNat with
  | 0 => .mbit1
  | 1 => .mbit2
  | 2 => .mbit4
  | _ => .mbit8

/-- What the character receiver is doing between characters (R2, R4, R5, R6, R25). -/
inductive Receiver where
  /-- Waiting for a falling edge while the line is high. -/
  | waitEdge
  /-- After a framing-fault character: waiting for Ring In to return high. -/
  | waitHigh
  /-- Ring In was low at the end of hard reset, a possible break (R25), and no event has been taken on it since. -/
  | lowAtReset
  /-- In a break that began at `start`; `long` once it has lasted 20 ms. -/
  | inBreak (start : Ticks) (long : Bool)
  deriving DecidableEq, Repr

/-- The frame assembler (R8): its state and, with it, the partial frame, its NOISY flag and the moment the
inter-character timer was last started. -/
inductive Assembler where
  | waitMark
  | receiving (chars : List Byte) (noisy : Bool) (since : Ticks)
  | discard (since : Ticks)
  deriving DecidableEq, Repr

/-- The block that appended an own frame (R20). -/
inductive Owner where
  | doseRegulator
  | codeUnit
  | managementUnit
  deriving DecidableEq, Repr

/-- An own frame as it is appended: header and payload, the check being computed when it is sent (R19, R23). The source
is the own station. -/
structure OwnFrame where
  owner : Owner
  dest : Byte
  kind : Byte
  payload : List Byte
  deriving DecidableEq, Repr

/-- An entry of the Routine Queue (R21): a REPLY or CAN REPORT with its payload, or a NOTICE without one. -/
inductive RoutineFrame where
  | ready (f : OwnFrame)
  | notice
  deriving DecidableEq, Repr

/-- The transmitter (R22, R7). A frame in SENDING is held whole, check bytes included; `own` tells an own frame from a
forwarded one. A running relay holds its start, the relay time already spent when the break it follows began (0 for a
break older than the relay), and the length it must reach. -/
inductive Transmitter where
  | gap (since : Ticks)
  | ready
  | sending (bytes : List Byte) (own : Bool) (since : Ticks)
  | relay (since base required : Ticks)
  deriving DecidableEq, Repr

/-- Table 1-6. -/
structure RingCounters where
  goodFrames : Counter := 0
  noisyFrames : Counter := 0
  overrun : Counter := 0
  framing : Counter := 0
  truncated : Counter := 0
  length : Counter := 0
  check : Counter := 0
  strays : Counter := 0
  resyncs : Counter := 0
  longBreaks : Counter := 0
  relays : Counter := 0
  forwarded : Counter := 0
  own : Counter := 0
  deriving DecidableEq, Repr

/-- The Ring Port (Table 1-1). -/
structure RingPort where
  rate : RingRate
  receiver : Receiver
  assembler : Assembler
  forward : List (List Byte)
  urgent : List OwnFrame
  routine : List RoutineFrame
  tx : Transmitter
  relayPending : Option Ticks
  counters : RingCounters
  deriving DecidableEq, Repr

/-! ## Pass Stage (chapter 2) -/

/-- R31. -/
inductive PassAction where
  | pass
  | drop
  | snoop
  | trim
  deriving DecidableEq, Repr

/-- A pass rule (R31); `none` in a field is ANY. -/
structure PassRule where
  dest : Option Byte
  source : Option Byte
  kind : Option Byte
  action : PassAction
  deriving DecidableEq, Repr

/-- Table 2-2. -/
structure PassCounters where
  addressed : Counter := 0
  orphans : Counter := 0
  unknownKind : Counter := 0
  drops : Counter := 0
  snoops : Counter := 0
  ignoredSnoops : Counter := 0
  rewrites : Counter := 0
  malformed : Counter := 0
  deriving DecidableEq, Repr

/-- The Pass Stage: 16 positions, each empty or holding a rule (R31), and its counters (R39). -/
structure PassStage where
  rules : List (Option PassRule)
  counters : PassCounters
  deriving DecidableEq, Repr

/-! ## Input Unit (chapter 3) -/

/-- A filter is STABLE, or CHANGING with the moment its hold timer started (R40, R43). -/
inductive FilterState where
  | stable
  | changing (since : Ticks)
  deriving DecidableEq, Repr

/-- A discrete input: its pin, its accepted level (true is high), its filter and its filter time in µs (R40, R41). -/
structure InputFilter where
  pin : Bool
  accepted : Bool
  filter : FilterState
  time : Nat
  deriving DecidableEq, Repr

/-- The encoder pair (A, B), its accepted pair, its filter and its filter time in µs (R43). -/
structure EncoderFilter where
  pins : Bool × Bool
  accepted : Bool × Bool
  filter : FilterState
  time : Nat
  deriving DecidableEq, Repr

/-- R43. -/
inductive Direction where
  | forward
  | reverse
  deriving DecidableEq, Repr

/-- R47. -/
inductive ValveIndex where
  | unknown
  | armed
  | atValve (v : Nat)
  deriving DecidableEq, Repr

/-- Table 3-5. -/
structure InputCounters where
  glitchDischarge : Counter := 0
  glitchHome : Counter := 0
  glitchPocket : Counter := 0
  glitchPlatformEye : Counter := 0
  glitchConfirmEye : Counter := 0
  glitchEncoder : Counter := 0
  encoderErrors : Counter := 0
  discharges : Counter := 0
  cansPresent : Counter := 0
  homeEdges : Counter := 0
  slips : Counter := 0
  arrivals : Counter := 0
  confirms : Counter := 0
  deriving DecidableEq, Repr

/-- The Input Unit (Table 3-1). -/
structure InputUnit where
  discharge : InputFilter
  home : InputFilter
  pocket : InputFilter
  platformEye : InputFilter
  confirmEye : InputFilter
  encoder : EncoderFilter
  count : Count
  direction : Direction
  index : ValveIndex
  counters : InputCounters
  deriving DecidableEq, Repr

/-! ## Tracking Unit (chapter 4) -/

/-- R57. -/
inductive LineState where
  | idle
  | run
  deriving DecidableEq, Repr

/-- Table 4-3, print state. -/
inductive PrintState where
  | none
  | requested
  | skipped
  deriving DecidableEq, Repr

/-- Table 6-6. -/
inductive CodeResult where
  | matched
  | noread
  | badcode
  | contentMismatch
  | tagMismatch
  deriving DecidableEq, Repr

/-- Table 4-3, eye state. -/
inductive EyeState where
  | expected
  | arrived
  | lost
  deriving DecidableEq, Repr

/-- R101. -/
inductive Quality where
  | good
  | unsettled
  | overlap
  | sampleFault
  deriving DecidableEq, Repr

/-- The weight result of R102. -/
structure WeightResult where
  net : Int
  samples : Nat
  quality : Quality
  test : Bool
  deriving DecidableEq, Repr

/-- Table 4-3, verdict. -/
inductive Verdict where
  | pending
  | accept
  | reject
  deriving DecidableEq, Repr

/-- The twelve reasons of Table 8-2. -/
inductive Reason where
  | under
  | over
  | unsettled
  | overlap
  | sampleFault
  | stray
  | noread
  | badcode
  | contentMismatch
  | tagMismatch
  | notPrinted
  | lockedValve
  deriving DecidableEq, Repr

/-- Table 4-3, confirm state when present. -/
inductive ConfirmState where
  | seen
  | notSeen
  deriving DecidableEq, Repr

/-- Table 4-3, points passed. -/
structure PointsPassed where
  print : Bool := false
  trigger : Bool := false
  readerClose : Bool := false
  eyeClose : Bool := false
  gate : Bool := false
  confirmClose : Bool := false
  deriving DecidableEq, Repr

/-- A can record (R61, Table 4-3). -/
structure CanRecord where
  serial : Serial
  valve : Nat
  product : Option Nat
  origin : Count
  eyeDistance : Nat
  eligible : Bool
  stale : Bool
  locked : Bool
  lot : Option (List Byte)
  print : PrintState
  code : Option CodeResult
  arrival : Option Count
  eye : EyeState
  weight : Option WeightResult
  verdict : Verdict
  reasons : List Reason
  confirm : Option ConfirmState
  passed : PointsPassed
  deriving DecidableEq, Repr

/-- The window owner (R75). -/
structure WindowOwner where
  serial : Serial
  openPoint : Count
  closePoint : Count
  opened : Bool
  deriving DecidableEq, Repr

/-- Table 4-7. -/
structure CanCounters where
  admitted : Counter := 0
  strays : Counter := 0
  exited : Counter := 0
  lost : Counter := 0
  flushed : Counter := 0
  overflow : Counter := 0
  deriving DecidableEq, Repr

/-- The Tracking Unit (Table 4-1). `distances` holds entries 0 to 10 of Table 4-4. -/
structure TrackingUnit where
  line : LineState
  queue : List CanRecord
  nextSerial : Serial
  distances : List (Option Nat)
  override : Bool
  learned : List Nat
  owner : Option WindowOwner
  counters : CanCounters
  untracked : Counter
  deriving DecidableEq, Repr

/-! ## Weighing Engine (chapter 5) -/

/-- The sample port receiver (R89): idle, or with the bits of a begun frame taken so far, the first taken at the head. -/
inductive SampleReceiver where
  | idle
  | taking (bits : List Bool)
  deriving DecidableEq, Repr

/-- A block of samples under collection: how many, the least, the greatest and their sum (R100, R108). -/
structure SampleBlock where
  count : Nat
  least : Int
  most : Int
  sum : Int
  deriving DecidableEq, Repr

/-- A block with no samples. -/
def SampleBlock.empty : SampleBlock := ⟨0, 0, 0, 0⟩

/-- What a test window took at its open (R113): its weight, the ripple pattern it uses, and its ripple index. -/
structure TestWindow where
  weight : Int
  ripple : List Int
  index : Nat
  deriving DecidableEq, Repr

/-- An OPEN window (R95, R100). -/
structure OpenWindow where
  serial : Serial
  overlap : Bool
  blockSize : Nat
  settleBand : Nat
  block : SampleBlock
  settled : Bool
  samples : Nat
  sum : Int
  fault : Bool
  test : Option TestWindow
  deriving DecidableEq, Repr

/-- The window slot (section 5.2). -/
inductive WindowSlot where
  | none
  | pending (serial : Serial) (overlap : Bool)
  | opened (w : OpenWindow)
  deriving DecidableEq, Repr

/-- The capture accumulator (R106). -/
structure CaptureAccumulator where
  count : Nat
  sum : Int
  deriving DecidableEq, Repr

/-- A zero-tracking run: its quiet blocks and the sum of their samples (R108). -/
structure TrackingRun where
  blocks : Nat
  sum : Int
  deriving DecidableEq, Repr

/-- A run with no blocks. -/
def TrackingRun.empty : TrackingRun := ⟨0, 0⟩

/-- Table 5-6. -/
inductive StepMode where
  | fixed
  | step
  deriving DecidableEq, Repr

/-- The test state of Table 5-6. -/
structure TestState where
  weights : List Int
  count : Nat
  mode : StepMode
  ripple : List Int
  pointer : Nat
  deriving DecidableEq, Repr

/-- Table 5-8. -/
structure WeighingCounters where
  frames : Counter := 0
  faulted : Counter := 0
  short : Counter := 0
  losses : Counter := 0
  good : Counter := 0
  unsettled : Counter := 0
  overlap : Counter := 0
  sampleFault : Counter := 0
  test : Counter := 0
  clamps : Counter := 0
  abandonedWindows : Counter := 0
  captures : Counter := 0
  capturesAbandoned : Counter := 0
  adjustments : Counter := 0
  drifts : Counter := 0
  deriving DecidableEq, Repr

/-- The Weighing Engine (Table 5-1, Table 5-7). The engine state is a view of `slot` and `capture`. The loss timer holds
the moment it was started. -/
structure WeighingEngine where
  receiver : SampleReceiver
  sampleLoss : Bool
  lossTimer : Option Ticks
  slot : WindowSlot
  zero : Int
  factor : Nat
  capture : Option CaptureAccumulator
  block : SampleBlock
  run : TrackingRun
  testMode : Bool
  test : TestState
  sampleRate : Nat
  blockSize : Nat
  settleBand : Nat
  zeroTracking : Bool
  zeroBand : Nat
  counters : WeighingCounters
  deriving DecidableEq, Repr

/-! ## Code Unit (chapter 6) -/

/-- R123. -/
inductive PortFormat where
  | eightN1
  | sevenE1
  deriving DecidableEq, Repr

/-- R126. -/
inductive ReadState where
  | off
  | waitIdle
  | ready
  | receiving
  | inBreak
  deriving DecidableEq, Repr

/-- The read marks of R130. -/
structure ReadMarks where
  overrun : Bool := false
  framing : Bool := false
  parity : Bool := false
  discarding : Bool := false
  deriving DecidableEq, Repr

/-- The fault types of R132. -/
inductive ReadFault where
  | overrun
  | framing
  | parity
  | length
  | charClass
  | check
  deriving DecidableEq, Repr

/-- The kind and the outcome of a last read (Table 6-5): a no-read report, a well-formed read, or a BADCODE read with
its fault type. -/
inductive ReadOutcome where
  | noRead
  | wellFormed
  | badcode (f : ReadFault)
  deriving DecidableEq, Repr

/-- The last read (Table 6-5). -/
structure LastRead where
  outcome : ReadOutcome
  text : List Byte
  delivered : Nat
  count : Count
  serial : Option Serial
  result : Option CodeResult
  deriving DecidableEq, Repr

/-- The transmitter in SENDING (R129): the character it sends and the moment its start bit began. -/
structure CodeSending where
  data : Byte
  since : Ticks
  deriving DecidableEq, Repr

/-- Table 6-7. -/
structure CodeCounters where
  printsRequested : Counter := 0
  printsSkipped : Counter := 0
  triggersSent : Counter := 0
  triggersDropped : Counter := 0
  noisy : Counter := 0
  outside : Counter := 0
  reads : Counter := 0
  idleReads : Counter := 0
  badOverrun : Counter := 0
  badFraming : Counter := 0
  badParity : Counter := 0
  badLength : Counter := 0
  badClass : Counter := 0
  badCheck : Counter := 0
  noReads : Counter := 0
  abandoned : Counter := 0
  matched : Counter := 0
  contentMismatches : Counter := 0
  tagMismatches : Counter := 0
  orphans : Counter := 0
  deriving DecidableEq, Repr

/-- The Code Unit (Table 6-1). `idleTimer` holds the moment it started; `sending` is none while the transmitter is QUIET.
`lineHigh` is the CODE line as the part last saw it, `underWay` a character begun and not yet ended (log 12); `lowSince`
is the moment from which a line found low at an enable (R127) or at a trigger's end (R129) is watched for a break. -/
structure CodeUnit where
  lot : List Byte
  rate : Nat
  format : PortFormat
  enable : Bool
  readState : ReadState
  idleTimer : Option Ticks
  sending : Option CodeSending
  lineHigh : Bool
  underWay : Bool
  lowSince : Option Ticks
  fifo : List Byte
  marks : ReadMarks
  delivered : Nat
  lastRead : Option LastRead
  counters : CodeCounters
  deriving DecidableEq, Repr

/-! ## Dose Regulator (chapter 7) -/

/-- A product entry as Table 10-8 lays it out. `shape` is the byte at offset 31, which holds the fraction and the fill
lag. An entry stored empty keeps its other bytes as written (R142). -/
structure Product where
  code : BitVec 16
  target : BitVec 32
  lower : BitVec 32
  upper : BitVec 32
  tare : BitVec 32
  gain : BitVec 16
  nominal : BitVec 16
  window : Byte
  deadband : BitVec 32
  trimLimit : BitVec 16
  maxStep : BitVec 16
  shape : Byte
  lockout : Byte
  mask : Byte
  deriving DecidableEq, Repr

/-- An entry at hard reset: the code 0xFFFF and every other field 0 (R141). -/
def Product.empty : Product := ⟨0xFFFF, 0, 0, 0, 0, 0, 0, 0, 0, 0, 0, 0, 0, 0⟩

/-- Table 7-4. -/
inductive ValveState where
  | disabled
  | regulating
  | hold
  | awaitAck
  | locking
  | lockedOut
  | releasing
  | fault
  deriving DecidableEq, Repr

/-- The op of an exchange (section 7.6). -/
inductive ExchangeOp where
  | dose
  | off
  | on
  deriving DecidableEq, Repr

/-- The counters of a valve (Table 7-3). -/
structure ValveCounters where
  handOffs : Counter := 0
  entered : Counter := 0
  exchanges : Counter := 0
  timeouts : Counter := 0
  refusals : Counter := 0
  deriving DecidableEq, Repr

/-- A valve entry (Table 7-3). The exchange timer holds the moment of its expiry. -/
structure Valve where
  state : ValveState := .disabled
  base : Nat := 0
  trim : Int := 0
  pendingTrim : Option Int := none
  generation : Generation := 0
  window : List Int := []
  lag : Nat := 0
  limitCount : Nat := 0
  exchange : Option (ExchangeOp × Byte) := none
  timer : Option Ticks := none
  abandonedTag : Option Byte := none
  counters : ValveCounters := {}
  deriving DecidableEq, Repr

/-- Table 7-7. -/
structure DoseCounters where
  productChanges : Counter := 0
  unknownProducts : Counter := 0
  withdrawn : Counter := 0
  doseChanges : Counter := 0
  baseChanges : Counter := 0
  evaluations : Counter := 0
  deadband : Counter := 0
  noChange : Counter := 0
  notStarted : Counter := 0
  deferred : Counter := 0
  lockouts : Counter := 0
  releases : Counter := 0
  staleAcks : Counter := 0
  lateAcks : Counter := 0
  unknownAcks : Counter := 0
  deriving DecidableEq, Repr

/-- The Dose Regulator (Table 7-1), with the valve count (0 is unset, R149). Valve v is entry v − 1 of `valves`. -/
structure DoseRegulator where
  products : List Product
  active : Option Nat
  valveCount : Nat
  valves : List Valve
  ackTimeout : Nat
  counters : DoseCounters
  deriving DecidableEq, Repr

/-! ## Verdict Unit (chapter 8) -/

/-- The causes of the stop latch (R177). -/
inductive Cause where
  | escape
  | strayNoRoom
  | lostRun
  | requested
  deriving DecidableEq, Repr

/-- The stop latch: which causes it holds (R177). -/
structure StopLatch where
  escape : Bool := false
  strayNoRoom : Bool := false
  lostRun : Bool := false
  requested : Bool := false
  deriving DecidableEq, Repr

/-- Table 8-4. `reasons` has one counter per reason in the order of Table 8-2. -/
structure VerdictCounters where
  gateDecisions : Counter := 0
  accepts : Counter := 0
  rejects : Counter := 0
  reasons : List Counter := List.replicate 12 0
  pulsesStarted : Counter := 0
  pulseRestarts : Counter := 0
  confirmAssigned : Counter := 0
  confirmUnassigned : Counter := 0
  confirmIdle : Counter := 0
  confirmedAccepts : Counter := 0
  missing : Counter := 0
  confirmedRejects : Counter := 0
  escapes : Counter := 0
  postEscape : Counter := 0
  postStrayNoRoom : Counter := 0
  postLostRun : Counter := 0
  postRequested : Counter := 0
  stopClears : Counter := 0
  deriving DecidableEq, Repr

/-- The Verdict Unit (Table 8-1). The pulse timer holds the moment of its expiry. -/
structure VerdictUnit where
  pulse : Option Ticks
  pulseTime : Nat
  stopLatch : StopLatch
  lostRun : Nat
  lostRunLimit : Nat
  counters : VerdictCounters
  deriving DecidableEq, Repr

/-! ## Management Unit (chapter 9) -/

/-- R193. -/
inductive ReportMode where
  | off
  | rejects
  | all
  deriving DecidableEq, Repr

/-- Table 9-8. -/
structure ManagementCounters where
  requests : Counter := 0
  refusedSources : Counter := 0
  unknownKinds : Counter := 0
  repliesQueued : Counter := 0
  repliesDropped : Counter := 0
  noticesQueued : Counter := 0
  noticeDeferrals : Counter := 0
  reportsQueued : Counter := 0
  reportsDropped : Counter := 0
  deriving DecidableEq, Repr

/-- The Management Unit (Table 9-1). Latch n and mask n of Table 9-6a are bit n. A station of 0 is unset.
`noticeRetryDue` is the model's own: a departure from the Routine Queue that no retry has followed (log 5). -/
structure ManagementUnit where
  ownStation : Byte
  filler : Byte
  coder : Byte
  latches : BitVec 18
  masks : BitVec 18
  noticePending : Bool
  noticeRetryDue : Bool
  reportMode : ReportMode
  counters : ManagementCounters
  deriving DecidableEq, Repr

/-! ## The whole part -/

/-- The state of the TW-48: the clock, whether RESET is low, the nine blocks (the Pass Stage to the Management Unit and
the Ring Port), and the commands that wait, first in, first out. -/
structure State where
  now : Ticks
  resetLow : Bool
  ring : RingPort
  pass : PassStage
  input : InputUnit
  track : TrackingUnit
  weigh : WeighingEngine
  code : CodeUnit
  dose : DoseRegulator
  verdict : VerdictUnit
  mgmt : ManagementUnit
  pending : List Instr
  deriving DecidableEq, Repr

/-! ## Reset -/

/-- A discrete input at the end of hard reset (R42, Table 3-1): STABLE, its accepted level the pin's, 20 µs. -/
def InputFilter.reset (pin : Bool) : InputFilter := ⟨pin, pin, .stable, 20⟩

/-- The encoder at the end of hard reset (Table 3-1). -/
def EncoderFilter.reset (a b : Bool) : EncoderFilter := ⟨(a, b), (a, b), .stable, 1⟩

/-- R25: the Ring Port at the end of hard reset. -/
def RingPort.reset (p : Pins) : RingPort where
  rate := RingRate.ofStraps p.rate
  receiver := if p.ringIn then .waitEdge else .lowAtReset
  assembler := .waitMark
  forward := []
  urgent := []
  routine := []
  tx := .gap 0
  relayPending := none
  counters := {}

/-- R31, R39. -/
def PassStage.reset : PassStage where
  rules := List.replicate Config.passRules none
  counters := {}

/-- R42, R45, R49, R56, Table 3-1. -/
def InputUnit.reset (p : Pins) : InputUnit where
  discharge := InputFilter.reset p.discharge
  home := InputFilter.reset p.home
  pocket := InputFilter.reset p.pocket
  platformEye := InputFilter.reset p.platformEye
  confirmEye := InputFilter.reset p.confirmEye
  encoder := EncoderFilter.reset p.encA p.encB
  count := 0
  direction := .forward
  index := .unknown
  counters := {}

/-- R86. -/
def TrackingUnit.reset : TrackingUnit where
  line := .idle
  queue := []
  nextSerial := 0
  distances := List.replicate 11 none
  override := false
  learned := []
  owner := none
  counters := {}
  untracked := 0

/-- Table 5-6, hard-reset column. -/
def TestState.reset : TestState where
  weights := List.replicate 8 0
  count := 1
  mode := .fixed
  ripple := List.replicate 4 0
  pointer := 0

/-- R116, Tables 5-1 and 5-7; the loss timer starts at the end of reset (R91). -/
def WeighingEngine.reset : WeighingEngine where
  receiver := .idle
  sampleLoss := false
  lossTimer := some 0
  slot := .none
  zero := 0
  factor := 0
  capture := none
  block := SampleBlock.empty
  run := TrackingRun.empty
  testMode := false
  test := TestState.reset
  sampleRate := 4800
  blockSize := 16
  settleBand := 64
  zeroTracking := false
  zeroBand := 2000
  counters := {}

/-- R138. The lot is "000000"; 0x30 is the character 0 (R195). -/
def CodeUnit.reset (p : Pins) : CodeUnit where
  lot := List.replicate 6 0x30
  rate := 115200
  format := .eightN1
  enable := false
  readState := .off
  idleTimer := none
  sending := none
  lineHigh := p.code
  underWay := false
  lowSince := none
  fifo := []
  marks := {}
  delivered := 0
  lastRead := none
  counters := {}

/-- R169, Tables 7-1 and 7-3. -/
def DoseRegulator.reset : DoseRegulator where
  products := List.replicate Config.products Product.empty
  active := none
  valveCount := 0
  valves := List.replicate Config.valves {}
  ackTimeout := 250
  counters := {}

/-- R180. -/
def VerdictUnit.reset : VerdictUnit where
  pulse := none
  pulseTime := 40
  stopLatch := {}
  lostRun := 0
  lostRunLimit := 0
  counters := {}

/-- R194, R182. -/
def ManagementUnit.reset (p : Pins) : ManagementUnit where
  ownStation := p.station.setWidth 8
  filler := 0
  coder := 0
  latches := 0
  masks := 0
  noticePending := false
  noticeRetryDue := false
  reportMode := .off
  counters := {}

/-- The machine at the end of a hard reset with the pins as read and the commands that wait kept (R25, R42, R86, R116,
R138, R169, R180, R194). DESIGN CHOICE (log 2): the clock stands at 0. -/
def State.afterReset (p : Pins) (pending : List Instr) : State where
  now := 0
  resetLow := false
  ring := RingPort.reset p
  pass := PassStage.reset
  input := InputUnit.reset p
  track := TrackingUnit.reset
  weigh := WeighingEngine.reset
  code := CodeUnit.reset p
  dose := DoseRegulator.reset
  verdict := VerdictUnit.reset
  mgmt := ManagementUnit.reset p
  pending := pending

/-- The pins of State.reset. DESIGN CHOICE (log 6): the station of the manual's examples, 9; the rate of its examples,
1 Mbit/s; Ring In and CODE at rest, which is high; the encoder and the discrete inputs low. -/
def Pins.manual : Pins where
  station := 9
  rate := 0
  ringIn := true
  code := true
  encA := false
  encB := false
  discharge := false
  home := false
  pocket := false
  platformEye := false
  confirmEye := false

/-- The machine right after reset, nothing waiting. -/
def State.reset : State := State.afterReset Pins.manual []

end Sys2Proof.Machine
end

