-- ==== Sys2Proof/Machine/Operands.lean ====
section
/-! DEFINITION. Bytes, fields and characters: the encodings of chapter 10, the check of R10, and the receivers that turn
sampled bits into characters (R3, R4, R124, R125). -/

namespace Sys2Proof.Machine

/-! ## Fields of more than one byte (chapter 10: low byte first, signed fields two's complement) -/

/-- The low `n` bytes of `x`, low byte first. -/
def leBytes : Nat → Nat → List Byte
  | 0, _ => []
  | n + 1, x => BitVec.ofNat 8 x :: leBytes n (x / 256)

/-- A signed field of `n` bytes. -/
def leSigned (n : Nat) (x : Int) : List Byte :=
  leBytes n (x.emod (256 ^ n : Nat)).toNat

/-- The number that bytes hold, low byte first. -/
def leNat : List Byte → Nat
  | [] => 0
  | b :: bs => b.toNat + 256 * leNat bs

/-- The signed number that bytes hold, low byte first. -/
def leInt (bs : List Byte) : Int :=
  let x := leNat bs
  if 2 * x < 256 ^ bs.length then (x : Int) else (x : Int) - (256 ^ bs.length : Nat)

/-- Byte `i` of a list, 0 beyond its end. -/
def byteAt (bs : List Byte) (i : Nat) : Byte := bs.getD i 0

/-- `n` bytes from offset `i`. -/
def slice (bs : List Byte) (i n : Nat) : List Byte := (bs.drop i).take n

/-- Bytes in groups of `n`; `fuel` is the number of groups. -/
def chunks (n : Nat) : Nat → List Byte → List (List Byte)
  | 0, _ => []
  | fuel + 1, bs => bs.take n :: chunks n fuel (bs.drop n)

/-- A number held between two ends. -/
def clamp (lo hi x : Int) : Int :=
  if x < lo then lo else if hi < x then hi else x

/-- Bit `n` of a byte built from a flag. -/
def flagBit (n : Nat) (b : Bool) : Byte := if b then 1#8 <<< n else 0

/-- A flag as a byte of 0 or 1. -/
def boolByte (b : Bool) : Byte := if b then 1 else 0

/-- A 32-bit entry. -/
def word32 (x : Nat) : Counter := BitVec.ofNat 32 x

/-! ## The check (R10) -/

/-- One bit into the check register: exclusive-OR with the lowest bit, shift toward it, and 0x8408 if that gave 1. -/
def checkBit (r : BitVec 16) (bit : Bool) : BitVec 16 :=
  if bit ^^ r.getLsbD 0 then (r >>> 1) ^^^ 0x8408#16 else r >>> 1

/-- One byte into the check register, least significant bit first. -/
def checkByte (r : BitVec 16) (b : Byte) : BitVec 16 :=
  [0, 1, 2, 3, 4, 5, 6, 7].foldl (fun r i => checkBit r (b.getLsbD i)) r

/-- The check of a run of bytes, started from 0xFFFF. -/
def checkOf (bs : List Byte) : BitVec 16 :=
  bs.foldl checkByte 0xFFFF#16

/-- A frame's bytes from destination to payload, with their check behind them, low byte first. -/
def withCheck (bs : List Byte) : List Byte :=
  bs ++ leBytes 2 (checkOf bs).toNat

/-! ## Frames (Table 10-2) -/

/-- Destination of a frame's bytes. -/
def frameDest (f : List Byte) : Byte := byteAt f 0

/-- Source of a frame's bytes. -/
def frameSource (f : List Byte) : Byte := byteAt f 1

/-- Kind of a frame's bytes. -/
def frameKind (f : List Byte) : Byte := byteAt f 2

/-- Length character of a frame's bytes. -/
def frameLength (f : List Byte) : Nat := (byteAt f 3).toNat

/-- Payload of a frame's bytes. -/
def framePayload (f : List Byte) : List Byte := slice f 4 (frameLength f)

/-- The bytes of a frame of this header and payload, check included (R23). -/
def buildFrame (dest source kind : Byte) (payload : List Byte) : List Byte :=
  withCheck ([dest, source, kind, BitVec.ofNat 8 payload.length] ++ payload)

/-- The part of a whole frame that its check covers. -/
def checkedPart (f : List Byte) : List Byte := f.take (4 + frameLength f)

/-- Whether a whole frame's check verifies (R9). -/
def checkVerifies (f : List Byte) : Bool :=
  leNat (slice f (4 + frameLength f) 2) == (checkOf (checkedPart f)).toNat

/-! ## Kinds (Table 10-3) -/

/-- PRODUCT SELECT. -/
def kindProductSelect : Byte := 0x10

/-- DOSE SET. -/
def kindDoseSet : Byte := 0x11

/-- VALVE OFF. -/
def kindValveOff : Byte := 0x12

/-- VALVE ON. -/
def kindValveOn : Byte := 0x13

/-- FILL ACK. -/
def kindFillAck : Byte := 0x14

/-- PRINT. -/
def kindPrint : Byte := 0x20

/-- TABLE READ. -/
def kindTableRead : Byte := 0x30

/-- TABLE WRITE. -/
def kindTableWrite : Byte := 0x31

/-- ACTION. -/
def kindAction : Byte := 0x32

/-- IDENTIFY. -/
def kindIdentify : Byte := 0x33

/-- REPLY. -/
def kindReply : Byte := 0x38

/-- NOTICE. -/
def kindNotice : Byte := 0x39

/-- CAN REPORT. -/
def kindCanReport : Byte := 0x3A

/-! ## Receivers -/

/-- The value that at least two of three samplings of each bit give (R3, R124). -/
def majority {w : Nat} (a b c : BitVec w) : BitVec w :=
  (a &&& b) ||| (a &&& c) ||| (b &&& c)

/-- What the ring receiver makes of eleven sampled bits (R2, R3, R4). -/
inductive RingDelivery where
  | falseStart
  | lineBreak
  | character (data : Byte) (mark sound noisy : Bool)
  deriving DecidableEq, Repr

/-- R3, R4: a start bit that comes out high is a false start; a stop bit that comes out low is a break when all eleven
bits came out low and the line is still low, and a framing fault otherwise. -/
def receiveRing (c : RingSamples) : RingDelivery :=
  let w := majority c.first c.second c.third
  let noisy := !(c.first == c.second && c.first == c.third)
  if w.getLsbD 0 then .falseStart
  else if w == 0 && c.lowAtEnd then .lineBreak
  else .character (w.extractLsb' 1 8) (w.getLsbD 9) (w.getLsbD 10) noisy

/-- What the code port receiver makes of ten sampled bits (R124, R125). -/
inductive CodeDelivery where
  | falseStart
  | lineBreak
  | character (data : Byte) (parityFault framingFault noisy : Bool)
  deriving DecidableEq, Repr

/-- The number of ones among the low `n` bits. -/
def onesBelow (n : Nat) (w : BitVec 10) : Nat :=
  ((List.range n).filter (fun i => w.getLsbD i)).length

/-- R124, R125. In 7E1 the data are bits 1 to 7 and the parity bit is bit 8; the eight together hold an even number of
ones. In 8N1 the data are bits 1 to 8. -/
def receiveCode (fmt : PortFormat) (c : CodeSamples) : CodeDelivery :=
  let w := majority c.first c.second c.third
  let noisy := !(c.first == c.second && c.first == c.third)
  if w.getLsbD 0 then .falseStart
  else if w == 0 && c.lowAtEnd then .lineBreak
  else match fmt with
    | .eightN1 => .character (w.extractLsb' 1 8) false (!w.getLsbD 9) noisy
    | .sevenE1 =>
      .character ((w.extractLsb' 1 7).setWidth 8) (onesBelow 9 w % 2 == 1) (!w.getLsbD 9) noisy

/-! ## Characters as they are sent (R23, R124) -/

/-- Bit `k` of a character that has been under way for `elapsed` clock units, `k` counted at `rate` bits a second. -/
def bitIndex (elapsed rate : Nat) : Nat := elapsed * rate / Config.ticksPerSecond

/-- The eleven bits of a ring character (section 1.2), bit 0 sent first: the start bit 0, the data bits least significant
first, the mark bit, the stop bit 1. -/
def ringCharacter (mark : Bool) (data : Byte) : BitVec 11 :=
  (1#11 <<< 10) ||| (if mark then 1#11 <<< 9 else 0#11) ||| (data.setWidth 11 <<< 1)

/-- The characters of a frame (R23): the first carries mark bit 1 and the rest carry 0. -/
def frameCharacters : List Byte → List (BitVec 11)
  | [] => []
  | b :: rest => ringCharacter true b :: rest.map (ringCharacter false)

/-- The ten bits of a code port character (R124), bit 0 sent first: the start bit 0, eight data bits, or in 7E1 seven and
a parity bit that makes the ones even, and the stop bit 1. -/
def codeCharacter (fmt : PortFormat) (data : Byte) : BitVec 10 :=
  match fmt with
  | .eightN1 => (1#10 <<< 9) ||| (data.setWidth 10 <<< 1)
  | .sevenE1 =>
    let w : BitVec 10 := (data.extractLsb' 0 7).setWidth 10 <<< 1
    (1#10 <<< 9) ||| (if onesBelow 8 w % 2 == 1 then 1#10 <<< 8 else 0#10) ||| w

/-! ## Characters of text (R195, R119) -/

/-- A digit 0 to 9. -/
def isDigit (b : Byte) : Bool := 0x30 ≤ b.toNat && b.toNat ≤ 0x39

/-- An uppercase letter A to Z. -/
def isUpper (b : Byte) : Bool := 0x41 ≤ b.toNat && b.toNat ≤ 0x5A

/-- A digit or an uppercase letter. -/
def isCodeChar (b : Byte) : Bool := isDigit b || isUpper b

/-- A digit, or an uppercase letter A to F. -/
def isHexChar (b : Byte) : Bool := isDigit b || (0x41 ≤ b.toNat && b.toNat ≤ 0x46)

/-- The value of a code character (R119): a digit's own, a letter's 10 to 35. -/
def charValue (b : Byte) : Nat :=
  if isDigit b then b.toNat - 0x30 else b.toNat - 0x41 + 10

/-- The code character of a value 0 to 35. -/
def valueChar (v : Nat) : Byte :=
  if v < 10 then BitVec.ofNat 8 (0x30 + v) else BitVec.ofNat 8 (0x41 + (v - 10))

/-- The check character of the characters before it (R119). -/
def checkChar (cs : List Byte) : Byte :=
  valueChar ((cs.map charValue).foldl (· + ·) 0 % 36)

/-- `n` digits of a number in a base up to 36, most significant first. -/
def digits (base : Nat) : Nat → Nat → List Byte
  | 0, _ => []
  | n + 1, x => valueChar (x / base ^ n % base) :: digits base n x

/-- The number that characters write in a base, most significant first. -/
def readDigits (base : Nat) (cs : List Byte) : Nat :=
  cs.foldl (fun acc c => acc * base + charValue c) 0

/-! ## Codes shared by reports, tables and the last read (Tables 10-6, 10-7) -/

/-- Table 10-7, code result. -/
def codeResultCode : Option CodeResult → Byte
  | none => 0
  | some .matched => 1
  | some .noread => 2
  | some .badcode => 3
  | some .contentMismatch => 4
  | some .tagMismatch => 5

/-- Table 10-7, reason bit. -/
def Reason.bit : Reason → Nat
  | .under => 0
  | .over => 1
  | .unsettled => 2
  | .overlap => 3
  | .sampleFault => 4
  | .stray => 5
  | .noread => 6
  | .badcode => 7
  | .contentMismatch => 8
  | .tagMismatch => 9
  | .notPrinted => 10
  | .lockedValve => 11

/-- Every reason, in the order of Table 8-2. -/
def Reason.all : List Reason :=
  [.under, .over, .unsettled, .overlap, .sampleFault, .stray, .noread, .badcode, .contentMismatch, .tagMismatch,
   .notPrinted, .lockedValve]

/-- Table 10-7, the two bytes of a set of reasons. -/
def reasonBits (rs : List Reason) : Nat :=
  ((Reason.all.filter (fun r => rs.contains r)).map (fun r => 2 ^ r.bit)).foldl (· + ·) 0

/-- Table 10-7, print state. -/
def printStateCode : PrintState → Byte
  | .none => 0
  | .requested => 1
  | .skipped => 2

/-- Table 10-7, confirm state. -/
def confirmCode : Option ConfirmState → Byte
  | none => 0
  | some .seen => 1
  | some .notSeen => 2

/-- Table 10-7, weight quality. -/
def qualityCode : Option WeightResult → Byte
  | none => 0
  | some w =>
    match w.quality with
    | .good => 1
    | .unsettled => 2
    | .overlap => 3
    | .sampleFault => 4

/-- Table 10-7, the flags byte. -/
def recordFlags (r : CanRecord) : Byte :=
  flagBit 0 r.eligible ||| flagBit 1 r.stale ||| flagBit 2 r.locked
    ||| flagBit 3 (match r.weight with | some w => w.test | none => false)
    ||| (printStateCode r.print <<< 4) ||| (confirmCode r.confirm <<< 6)

end Sys2Proof.Machine
end

