-- ==== Sys2Proof/Machine/Flags.lean ====
section
/-! DEFINITION. The flags and codes of the part: reply statuses, event latches, the stop latch as bits, the reject mask,
and the counting of events. -/

namespace Sys2Proof.Machine

/-- The reply statuses of Table 9-3. -/
inductive Status where
  | ok
  | unknownKind
  | badTable
  | badIndex
  | badValue
  | badLength
  | inUse
  | busy
  | notReady
  | refusedSource
  | zeroAbandoned
  deriving DecidableEq, Repr

/-- Table 10-6. -/
def Status.code : Status → Byte
  | .ok => 0
  | .unknownKind => 1
  | .badTable => 2
  | .badIndex => 3
  | .badValue => 4
  | .badLength => 5
  | .inUse => 6
  | .busy => 7
  | .notReady => 8
  | .refusedSource => 9
  | .zeroAbandoned => 10

/-- NOT_READY details (Table 10-6). -/
def detailNoProduct : Byte := 1

/-- NOT_READY, DISTANCES. -/
def detailDistances : Byte := 2

/-- NOT_READY, STATIONS. -/
def detailStations : Byte := 3

/-- NOT_READY, VALVE_COUNT. -/
def detailValveCount : Byte := 4

/-- NOT_READY, CALIBRATION. -/
def detailCalibration : Byte := 5

/-- The event latches of Table 9-6a. -/
inductive EventLatch where
  | stopSet
  | valveFault
  | valveLocked
  | indexSlip
  | trackOverflow
  | strayCan
  | lostCan
  | missingCan
  | unknownProduct
  | productChanged
  | ringError
  | zeroDrift
  | encoderError
  | reportDrop
  | sampleLossOn
  | sampleLossOff
  | lineRunOn
  | lineRunOff
  deriving DecidableEq, Repr

/-- The number of a latch (Table 9-6a). -/
def EventLatch.number : EventLatch → Nat
  | .stopSet => 0
  | .valveFault => 1
  | .valveLocked => 2
  | .indexSlip => 3
  | .trackOverflow => 4
  | .strayCan => 5
  | .lostCan => 6
  | .missingCan => 7
  | .unknownProduct => 8
  | .productChanged => 9
  | .ringError => 10
  | .zeroDrift => 11
  | .encoderError => 12
  | .reportDrop => 13
  | .sampleLossOn => 14
  | .sampleLossOff => 15
  | .lineRunOn => 16
  | .lineRunOff => 17

/-- The latch set that names one latch. -/
def EventLatch.bit (l : EventLatch) : BitVec 18 := 1#18 <<< l.number

/-- Whether a latch is set. -/
def State.latch (s : State) (l : EventLatch) : Bool := s.mgmt.latches.getLsbD l.number

/-- Whether a latch's mask is on. -/
def State.mask (s : State) (l : EventLatch) : Bool := s.mgmt.masks.getLsbD l.number

/-- Line state as a byte (Table 10-5, NOTICE; Table 10-11). -/
def lineStateByte : LineState → Byte
  | .idle => 0
  | .run => 1

/-- The payload of a NOTICE as it stands now (R21, R192). -/
def noticePayload (s : State) : List Byte :=
  leBytes 4 s.mgmt.latches.toNat ++ [lineStateByte s.track.line]

/-- Whether the latch holds a cause (R177). -/
def StopLatch.holds (l : StopLatch) : Cause → Bool
  | .escape => l.escape
  | .strayNoRoom => l.strayNoRoom
  | .lostRun => l.lostRun
  | .requested => l.requested

/-- The latch with a cause added (R177). -/
def StopLatch.add (l : StopLatch) : Cause → StopLatch
  | .escape => { l with escape := true }
  | .strayNoRoom => { l with strayNoRoom := true }
  | .lostRun => { l with lostRun := true }
  | .requested => { l with requested := true }

/-- Whether the latch holds no cause. -/
def StopLatch.isEmpty (l : StopLatch) : Bool :=
  !(l.escape || l.strayNoRoom || l.lostRun || l.requested)

/-- The cause bits of Table 10-6. -/
def StopLatch.bits (l : StopLatch) : Nat :=
  l.escape.toNat + 2 * l.strayNoRoom.toNat + 4 * l.lostRun.toNat + 8 * l.requested.toNat

/-- The stop-post counter of a cause (Table 8-4). -/
def VerdictCounters.post (c : VerdictCounters) : Cause → VerdictCounters
  | .escape => { c with postEscape := c.postEscape + 1 }
  | .strayNoRoom => { c with postStrayNoRoom := c.postStrayNoRoom + 1 }
  | .lostRun => { c with postLostRun := c.postLostRun + 1 }
  | .requested => { c with postRequested := c.postRequested + 1 }

/-- Mandatory reasons reject whatever the product says (section 8.1). -/
def Reason.mandatory : Reason → Bool
  | .under | .over | .unsettled | .overlap | .sampleFault | .stray => true
  | .noread | .badcode | .contentMismatch | .tagMismatch | .notPrinted | .lockedValve => false

/-- Whether a reject mask enables a reason: bits 0 to 5 enable the maskable ones in their order (Table 10-8). -/
def maskEnables (mask : Byte) (r : Reason) : Bool :=
  !r.mandatory && mask.getLsbD (r.bit - 6)

/-- The fraction's divisor d: 1, 2, 4 or 8 (R157, Table 10-8). -/
def Product.divisor (p : Product) : Nat := 2 ^ (p.shape.toNat % 4)

/-- The fill lag L, bits 4 to 6 (Table 10-8). -/
def Product.lag (p : Product) : Nat := p.shape.toNat / 16 % 8

/-- Whether an entry is empty (R141). -/
def Product.isEmpty (p : Product) : Bool := p.code == 0xFFFF

/-- A counter of the list that has one per reason. -/
def bumpAt (cs : List Counter) (i : Nat) : List Counter :=
  cs.set i (cs.getD i 0 + 1)

end Sys2Proof.Machine
end

