-- ==== Sys2Proof/Machine/Ops.lean ====
section
/-! DEFINITION. The named operations that several blocks share: the clock, the ring queues and their arbiter, event
latches and NOTICE frames, replies, records, positions on the wrapping count, and the frame around every event. -/

namespace Sys2Proof.Machine

/-- What a command's meaning answers. -/
abbrev Result := Host.Outcome State Fault Refusal

/-! ## The clock -/

/-- The clock stands at `t` at least. An expiry is taken at its due time or later (log 2). -/
def advanceTo (t : Ticks) (s : State) : State := { s with now := max s.now t }

/-- Clock units of `n` events at `rate` events a second, rounded up. -/
def periodTicks (n rate : Nat) : Ticks := (n * Config.ticksPerSecond + (rate - 1)) / rate

/-! ## The ring queues -/

/-- Repeater-only mode (R28): the strap reads 0 or 63. -/
def repeaterOnly (s : State) : Bool := s.mgmt.ownStation == 0 || s.mgmt.ownStation == Config.broadcast

/-- Appends an own frame to the Urgent Queue, taken or refused whole (R19, R28). The answer true is "queued". -/
def appendUrgent (f : OwnFrame) (s : State) : Bool × State :=
  if repeaterOnly s || Config.urgentCapacity ≤ s.ring.urgent.length then (false, s)
  else (true, { s with ring.urgent := s.ring.urgent ++ [f] })

/-- Appends a frame to the Routine Queue, taken or refused whole (R21, R28). The answer true is "queued". -/
def appendRoutine (f : RoutineFrame) (s : State) : Bool × State :=
  if repeaterOnly s || Config.routineCapacity ≤ s.ring.routine.length then (false, s)
  else (true, { s with ring.routine := s.ring.routine ++ [f] })

/-- Removes every waiting frame of a kind appended by an owner from the Urgent Queue and says how many (R20). -/
def withdraw (owner : Owner) (kind : Byte) (s : State) : Nat × State :=
  let kept := s.ring.urgent.filter (fun f => !(f.owner == owner && f.kind == kind))
  (s.ring.urgent.length - kept.length, { s with ring.urgent := kept })

/-- The bytes of an own frame as the transmitter sends it (R23). -/
def ownFrameBytes (s : State) (f : OwnFrame) : List Byte :=
  buildFrame f.dest s.mgmt.ownStation f.kind f.payload

/-- The bytes of a Routine Queue entry as the transmitter sends it: a NOTICE takes its payload now (R21). -/
def routineBytes (s : State) : RoutineFrame → List Byte
  | .ready f => ownFrameBytes s f
  | .notice => buildFrame 0 s.mgmt.ownStation kindNotice (noticePayload s)

/-- R22: in READY the arbiter takes the first of a pending relay and the heads of the Forward, Urgent and Routine
Queues. A departure from the Routine Queue makes a NOTICE retry due while the notice-pending flag is set (R192, log 5). -/
def arbitrate (s : State) : State :=
  match s.ring.tx with
  | .ready =>
    match s.ring.relayPending with
    | some len => { s with ring.relayPending := none, ring.tx := .relay s.now 0 len }
    | none =>
      match s.ring.forward with
      | f :: rest => { s with ring.forward := rest, ring.tx := .sending f false s.now }
      | [] =>
        match s.ring.urgent with
        | f :: rest => { s with ring.urgent := rest, ring.tx := .sending (ownFrameBytes s f) true s.now }
        | [] =>
          match s.ring.routine with
          | f :: rest =>
            { s with
              ring.routine := rest
              ring.tx := .sending (routineBytes s f) true s.now
              mgmt.noticeRetryDue := s.mgmt.noticePending }
          | [] => s
  | _ => s

/-- The frame around every event but the two of the RESET pin: while RESET is low nothing is taken (R2, R25, R42, R86,
R89, R138, R194, log 7), and at the end of an event the arbiter chooses if the transmitter is READY (R22, log 4). -/
def event (f : State → State) (s : State) : Result :=
  if s.resetLow then .next s else .next (arbitrate (f s))

/-! ## Event latches and NOTICE frames -/

/-- Whether an entry of the Routine Queue is a NOTICE. -/
def RoutineFrame.isNotice : RoutineFrame → Bool
  | .notice => true
  | .ready _ => false

/-- Whether a NOTICE waits in the Routine Queue. -/
def noticeWaits (s : State) : Bool := s.ring.routine.any RoutineFrame.isNotice

/-- Appends a NOTICE and counts it, or answers false (R192). -/
def queueNotice (s : State) : Bool × State :=
  match appendRoutine .notice s with
  | (true, t) => (true, { t with mgmt.counters.noticesQueued := t.mgmt.counters.noticesQueued + 1 })
  | (false, t) => (false, t)

/-- A NOTICE falls due (R192). -/
def noticeDue (s : State) : State :=
  if noticeWaits s || s.mgmt.noticePending then s
  else match queueNotice s with
    | (true, t) => t
    | (false, t) =>
      { t with
        mgmt.noticePending := true
        mgmt.counters.noticeDeferrals := t.mgmt.counters.noticeDeferrals + 1 }

/-- Sets a latch, a NOTICE falling due when it was clear and its mask is on (R191, R192). -/
def raise (l : EventLatch) (s : State) : State :=
  if s.latch l then s
  else
    let t := { s with mgmt.latches := s.mgmt.latches ||| l.bit }
    if s.mask l then noticeDue t else t

/-! ## Replies (R183) -/

/-- What an owner answers to a request: status, detail and data of the REPLY. -/
structure Answer where
  status : Status
  detail : Byte
  data : List Byte
  deriving DecidableEq, Repr

/-- Appends a REPLY and counts it queued or dropped (R183, Table 10-5). -/
def appendReply (dest kind : Byte) (a : Answer) (s : State) : State :=
  let f : OwnFrame := ⟨.managementUnit, dest, kindReply, [kind, a.status.code, a.detail] ++ a.data⟩
  match appendRoutine (.ready f) s with
  | (true, t) => { t with mgmt.counters.repliesQueued := t.mgmt.counters.repliesQueued + 1 }
  | (false, t) => { t with mgmt.counters.repliesDropped := t.mgmt.counters.repliesDropped + 1 }

/-- The deferred REPLY of an accepted ZERO: request kind 0x32, detail 0, data byte 5 (section 10.2). -/
def appendZeroReply (st : Status) (s : State) : State :=
  appendReply 0 kindAction ⟨st, 0, [5]⟩ s

/-! ## Positions on the wrapping count (00_scope.md) -/

/-- A point is reached when (count − p) modulo 2^32 is less than 2^31. -/
def reached (count p : Count) : Bool := (count - p).toNat < 2 ^ 31

/-- One position is at or before another. -/
def atOrBefore (a b : Count) : Bool := (b - a).toNat < 2 ^ 31

/-- A window [a, b] contains E. -/
def windowContains (a b e : Count) : Bool := reached e a && atOrBefore e b

/-- A distance added to a position. -/
def ahead (p : Count) (d : Nat) : Count := p + BitVec.ofNat 32 d

/-- A distance taken from a position. -/
def behind (p : Count) (d : Nat) : Count := p - BitVec.ofNat 32 d

/-! ## The Distance Table (Table 4-4) -/

/-- Entry i of the Distance Table. -/
def State.distance (s : State) (i : Nat) : Option Nat := (s.track.distances.getD i none)

/-- Print point. -/
def State.dc (s : State) : Option Nat := s.distance 0

/-- Trigger point. -/
def State.dt (s : State) : Option Nat := s.distance 1

/-- Reader window centre. -/
def State.dr (s : State) : Option Nat := s.distance 2

/-- Reader window half-width. -/
def State.wr (s : State) : Option Nat := s.distance 3

/-- Programmed platform distance. -/
def State.dp (s : State) : Option Nat := s.distance 4

/-- Platform eye window half-width. -/
def State.wp (s : State) : Option Nat := s.distance 5

/-- Weighing window open. -/
def State.lin (s : State) : Option Nat := s.distance 6

/-- Weighing window close. -/
def State.lout (s : State) : Option Nat := s.distance 7

/-- Gate decision point. -/
def State.dg (s : State) : Option Nat := s.distance 8

/-- Confirm window centre. -/
def State.dk (s : State) : Option Nat := s.distance 9

/-- Confirm window half-width. -/
def State.wk (s : State) : Option Nat := s.distance 10

/-! ## Records (R62) -/

/-- The record of a serial, if one is in the queue. -/
def findRecord (n : Serial) (q : List CanRecord) : Option CanRecord := q.find? (fun r => r.serial == n)

/-- The queue with one record changed. -/
def updateRecord (n : Serial) (f : CanRecord → CanRecord) : List CanRecord → List CanRecord
  | [] => []
  | r :: rest => if r.serial == n then f r :: rest else r :: updateRecord n f rest

/-- A write into the record of a serial: it lands if the record is there and is discarded otherwise (R62). -/
def writeRecord (n : Serial) (f : CanRecord → CanRecord) (s : State) : State :=
  { s with track.queue := updateRecord n f s.track.queue }

/-- The queue without the record of a serial (R83). -/
def removeRecord (n : Serial) : List CanRecord → List CanRecord
  | [] => []
  | r :: rest => if r.serial == n then rest else r :: removeRecord n rest

/-- Places a record after every record whose origin is at or before its own and before the first whose origin is after
it (R65, R80). -/
def insertByOrigin (r : CanRecord) : List CanRecord → List CanRecord
  | [] => [r]
  | x :: rest => if atOrBefore x.origin r.origin then x :: insertByOrigin r rest else r :: x :: rest

/-- The stale marking that names a valve (R62, R153). -/
def markStale (v : Nat) (s : State) : State :=
  { s with track.queue := s.track.queue.map (fun r => if r.valve == v then { r with stale := true } else r) }

/-! ## Products and valves -/

/-- Entry i of the Product Table. -/
def State.product (s : State) (i : Nat) : Product := s.dose.products.getD i Product.empty

/-- The active product's entry, if one is set. -/
def State.activeProduct (s : State) : Option Product := s.dose.active.map s.product

/-- The active product's fill lag L, or 0 while there is none (R153, R169). -/
def State.activeLag (s : State) : Nat :=
  match s.activeProduct with
  | some p => p.lag
  | none => 0

/-- The entry of valve v (R148). -/
def State.valve (s : State) (v : Nat) : Valve := s.dose.valves.getD (v - 1) {}

/-- The entry of valve v replaced. -/
def setValve (v : Nat) (x : Valve) (s : State) : State := { s with dose.valves := s.dose.valves.set (v - 1) x }

/-- Whether a valve lies in 1 to the valve count. -/
def State.valveInCount (s : State) (v : Nat) : Bool := 1 ≤ v && v ≤ s.dose.valveCount

end Sys2Proof.Machine
end

