-- ==== Sys2Proof/Machine/Code.lean ====
section
/-! DEFINITION. The Code Unit (chapter 6): the printed code, the print and trigger points, the code port, the framing and
validation of reads, their assignment to records, and the meanings of the code port's commands. -/

namespace Sys2Proof.Machine

/-! ## The printed code (R118, R119, R121, R122) -/

/-- The product code of the entry that a record names (R118). A stray names none; its print point never acts. -/
def recordCode (s : State) (r : CanRecord) : Nat :=
  match r.product with
  | some p => (s.product p).code.toNat
  | none => 0

/-- Positions 1 to 15 of a code text (Table 6-2). -/
def codeBody (code : Nat) (lot : List Byte) (valve : Nat) (serial : Serial) : List Byte :=
  digits 10 4 code ++ lot ++ digits 10 2 valve ++ digits 16 3 serial.toNat

/-- The 16 characters of a code text (R118, R119). -/
def codeText (code : Nat) (lot : List Byte) (valve : Nat) (serial : Serial) : List Byte :=
  let body := codeBody code lot valve serial
  body ++ [checkChar body]

/-- The PRINT frame of a record whose lot is `lot` (R122). -/
def printFrame (s : State) (r : CanRecord) (lot : List Byte) : OwnFrame :=
  ⟨.codeUnit, s.mgmt.coder, kindPrint,
    leBytes 2 r.serial.toNat ++ codeText (recordCode s r) lot r.valve r.serial⟩

/-- The print point of a record (R121). -/
def printPoint (n : Serial) (s : State) : State :=
  match findRecord n s.track.queue with
  | none => s
  | some r =>
    let lot := s.code.lot
    match appendUrgent (printFrame s r lot) s with
    | (true, t) =>
      writeRecord n (fun r => { r with lot := some lot, print := .requested })
        { t with code.counters.printsRequested := t.code.counters.printsRequested + 1 }
    | (false, t) =>
      writeRecord n (fun r => { r with lot := some lot, print := .skipped })
        { t with code.counters.printsSkipped := t.code.counters.printsSkipped + 1 }

/-! ## The trigger (R128) -/

/-- A reception is in progress (R128). -/
def receptionInProgress (c : CodeUnit) : Bool :=
  c.readState == .receiving || c.readState == .inBreak || c.underWay

/-- The trigger point of a record (R128): the trigger is begun, or dropped. -/
def triggerPoint (s : State) : State :=
  if !s.code.enable || s.code.sending.isSome || receptionInProgress s.code then
    { s with code.counters.triggersDropped := s.code.counters.triggersDropped + 1 }
  else
    { s with
      code.sending := some ⟨Config.triggerCharacter, s.now⟩
      code.idleTimer := none
      code.lowSince := none
      code.counters.triggersSent := s.code.counters.triggersSent + 1 }

/-- The level the part drives on CODE now (R129): the bits of the character being sent, and released, which the pull-up
makes high, otherwise and while RESET is low (R138). -/
def State.codeOut (s : State) : Bool :=
  s.resetLow ||
    match s.code.sending with
    | some sent =>
      let k := bitIndex (s.now - sent.since) s.code.rate
      if k < Config.codeCharacterBits then (codeCharacter s.code.format sent.data).getLsbD k else true
    | none => true

/-! ## Times on the code port (Table 6-3) -/

/-- One character time at a port rate. -/
def codeCharacterTicks (rate : Nat) : Ticks := periodTicks Config.codeCharacterBits rate

/-- The idle that ends a read: two character times (R126). -/
def readIdleTicks (rate : Nat) : Ticks := periodTicks (Config.readIdleCharacters * Config.codeCharacterBits) rate

/-! ## Validation (R132) -/

/-- The product digits of a read's 16 characters. -/
def readProduct (t : List Byte) : List Byte := slice t 0 4

/-- The lot characters of a read. -/
def readLot (t : List Byte) : List Byte := slice t 4 6

/-- The valve of a read's tag. -/
def readValve (t : List Byte) : Nat := readDigits 10 (slice t 10 2)

/-- The serial of a read's tag. -/
def readSerial (t : List Byte) : Nat := readDigits 16 (slice t 12 3)

/-- Every character belongs to its position's class in Table 6-2, and the valve reads at most 48. -/
def classesHold (t : List Byte) : Bool :=
  (readProduct t).all isDigit && (readLot t).all isCodeChar && (slice t 10 2).all isDigit
    && (slice t 12 3).all isHexChar && (slice t 15 1).all isCodeChar && decide (readValve t ≤ Config.valves)

/-- The first test of R132 that fails, or well formed. -/
def validateRead (m : ReadMarks) (t : List Byte) : ReadOutcome :=
  if m.overrun then .badcode .overrun
  else if m.framing then .badcode .framing
  else if m.parity then .badcode .parity
  else if t.length ≠ Config.codeLength then .badcode .length
  else if !classesHold t then .badcode .charClass
  else if byteAt t 15 ≠ checkChar (t.take 15) then .badcode .check
  else .wellFormed

/-- Counts a BADCODE read by its fault type (R132). -/
def CodeCounters.bad (c : CodeCounters) : ReadFault → CodeCounters
  | .overrun => { c with badOverrun := c.badOverrun + 1 }
  | .framing => { c with badFraming := c.badFraming + 1 }
  | .parity => { c with badParity := c.badParity + 1 }
  | .length => { c with badLength := c.badLength + 1 }
  | .charClass => { c with badClass := c.badClass + 1 }
  | .check => { c with badCheck := c.badCheck + 1 }

/-! ## Assignment (R134, R135, R136) -/

/-- A record is a candidate at count E (R134). -/
def isCandidate (dr wr : Nat) (e : Count) (r : CanRecord) : Bool :=
  windowContains (behind (ahead r.origin dr) wr) (ahead (ahead r.origin dr) wr) e
    && !r.passed.readerClose && r.code.isNone

/-- The candidates at count E, oldest first. With the reader window unset, which RUN excludes, there are none. -/
def candidates (s : State) (e : Count) : List CanRecord :=
  match s.dr, s.wr with
  | some dr, some wr => s.track.queue.filter (isCandidate dr wr e)
  | _, _ => []

/-- Writes a code result into a record, once (R61, R62). -/
def writeCode (n : Serial) (x : CodeResult) (s : State) : State :=
  writeRecord n (fun r => if r.code.isNone then { r with code := some x } else r) s

/-- What an assignment answers: the record written and the result, or an orphan. -/
abbrev Assigned := Option (Serial × CodeResult)

/-- A read or report with no candidate (R134). -/
def orphanRead (s : State) : Assigned × State :=
  (none, { s with code.counters.orphans := s.code.counters.orphans + 1 })

/-- A no-read report or a BADCODE read goes to the oldest candidate (R135). -/
def assignOldest (e : Count) (x : CodeResult) (s : State) : Assigned × State :=
  match candidates s e with
  | [] => orphanRead s
  | r :: _ => (some (r.serial, x), writeCode r.serial x s)

/-- Whether a read's content agrees with a record (R136, step 1). -/
def contentAgrees (s : State) (r : CanRecord) (t : List Byte) : Bool :=
  readProduct t == digits 10 4 (recordCode s r) && r.lot == some (readLot t)

/-- A well-formed read is assigned by its tag (R136). -/
def assignTagged (e : Count) (t : List Byte) (s : State) : Assigned × State :=
  let cs := candidates s e
  match cs.find? (fun r => r.serial.toNat == readSerial t && r.valve == readValve t) with
  | some r =>
    if contentAgrees s r t then
      (some (r.serial, .matched),
        writeCode r.serial .matched { s with code.counters.matched := s.code.counters.matched + 1 })
    else
      (some (r.serial, .contentMismatch),
        writeCode r.serial .contentMismatch
          { s with code.counters.contentMismatches := s.code.counters.contentMismatches + 1 })
  | none =>
    match cs with
    | [] => orphanRead s
    | r :: _ =>
      (some (r.serial, .tagMismatch),
        writeCode r.serial .tagMismatch
          { s with code.counters.tagMismatches := s.code.counters.tagMismatches + 1 })

/-! ## Reads (R130, R131, R133) -/

/-- The read in progress is emptied: FIFO, marks and the count of characters delivered. -/
def emptyRead (s : State) : State :=
  { s with code.fifo := [], code.marks := {}, code.delivered := 0 }

/-- The read in progress, if any, is discarded and counted as abandoned (R127, R133, R137). -/
def abandonRead (s : State) : State :=
  if s.code.readState == .receiving then
    emptyRead { s with code.counters.abandoned := s.code.counters.abandoned + 1 }
  else s

/-- A character is taken into the read in progress (R130). -/
def takeCharacter (data : Byte) (parityFault framingFault : Bool) (s : State) : State :=
  let s := { s with code.delivered := min 255 (s.code.delivered + 1) }
  if s.code.marks.discarding then s
  else if framingFault then { s with code.marks.framing := true, code.marks.discarding := true }
  else if s.code.fifo.length < Config.fifoCapacity then
    { s with
      code.fifo := s.code.fifo ++ [data]
      code.marks.parity := s.code.marks.parity || parityFault }
  else { s with code.marks.overrun := true }

/-- A character is delivered to the read framing (Table 6-4). -/
def frameCharacter (data : Byte) (parityFault framingFault : Bool) (s : State) : State :=
  match s.code.readState with
  | .waitIdle => { s with code.counters.outside := s.code.counters.outside + 1 }
  | .ready => takeCharacter data parityFault framingFault { s with code.readState := .receiving }
  | .receiving => takeCharacter data parityFault framingFault s
  | .off | .inBreak => s

/-- A completed read is assigned in RUN and counted in IDLE (R131, R140). -/
def assignRead (e : Count) (o : ReadOutcome) (t : List Byte) (s : State) : Assigned × State :=
  match s.track.line with
  | .idle => (none, { s with code.counters.idleReads := s.code.counters.idleReads + 1 })
  | .run =>
    match o with
    | .wellFormed => assignTagged e t s
    | .badcode _ => assignOldest e .badcode s
    | .noRead => (none, s)

/-- A read completes (R131). -/
def completeRead (s : State) : State :=
  let e := s.input.count
  let text := s.code.fifo
  let outcome := validateRead s.code.marks text
  let delivered := s.code.delivered
  let s := { s with code.counters.reads := s.code.counters.reads + 1 }
  let s := match outcome with
    | .badcode f => { s with code.counters := s.code.counters.bad f }
    | _ => s
  let (a, s) := assignRead e outcome text s
  let last : LastRead := ⟨outcome, text.take Config.codeLength, delivered, e, a.map Prod.fst, a.map Prod.snd⟩
  emptyRead { s with code.lastRead := some last, code.readState := .ready }

/-- A break is detected in an enabled read state: a no-read report (R133). -/
def breakDetected (s : State) : State :=
  let s := abandonRead s
  let e := s.input.count
  let s := { s with code.counters.noReads := s.code.counters.noReads + 1 }
  let (a, s) := match s.track.line with
    | .run => assignOldest e .noread s
    | .idle => (none, s)
  { s with
    code.lastRead := some ⟨.noRead, [], 0, e, a.map Prod.fst, a.map Prod.snd⟩
    code.readState := .inBreak
    code.idleTimer := none
    code.lineHigh := false
    code.underWay := false
    code.lowSince := none }

/-- The receiver watches the line: the port is enabled, no break runs and the transmitter is QUIET (R124, R126, R129). -/
def receiverWatches (c : CodeUnit) : Bool :=
  c.readState != .off && c.readState != .inBreak && c.sending.isNone

/-- The end of a character's stop bit period (R124, R125, R126). A falling edge that no command gave is taken with it (log
12). The level at the end of the period is read only where the stop bit came out low: a sound character leaves the line
high and starts the idle timer also where the line is low again by then, a case that the manual does not describe (log 32,
DESIGN CHOICE). -/
def characterEnds (c : CodeSamples) (s : State) : State :=
  match receiveCode s.code.format c with
  | .falseStart => { s with code.underWay := false }
  | .lineBreak => breakDetected s
  | .character data parityFault framingFault noisy =>
    let s := if noisy then { s with code.counters.noisy := s.code.counters.noisy + 1 } else s
    let s := { s with code.underWay := false }
    let s := frameCharacter data parityFault framingFault s
    if framingFault && c.lowAtEnd then { s with code.lineHigh := false, code.idleTimer := none }
    else { s with code.idleTimer := some s.now }

/-- CODE_CHARACTER: a falling edge begins a character, or a character ends (R124). -/
def codeCharacterEvent (p : CodePart) (s : State) : State :=
  if receiverWatches s.code && s.code.lineHigh then
    match p with
    | .falls => { s with code.underWay := true }
    | .ends c => characterEnds c s
  else s

/-- CODE_BREAK: a break is detected, from a line that was high or, at an enable or a trigger's end, has stayed low for
one character time (R125, R127, R129, R133). With the port OFF the line is low and nothing is taken (log 12). -/
def codeBreakEvent (s : State) : State :=
  if s.code.readState == .off then { s with code.lineHigh := false }
  else if receiverWatches s.code then
    match s.code.lowSince with
    | some since => breakDetected (advanceTo (since + codeCharacterTicks s.code.rate) s)
    | none => if s.code.lineHigh then breakDetected s else s
  else s

/-- CODE_BREAK_END: the line returns high after a break (R125). -/
def codeBreakEndEvent (s : State) : State :=
  match s.code.readState with
  | .inBreak =>
    { s with code.readState := .waitIdle, code.lineHigh := true, code.idleTimer := some s.now }
  | .off => { s with code.lineHigh := true }
  | _ => s

/-- CODE_LINE_HIGH: the line returns high after a framing-fault character, or after being low at an enable or at a
trigger's end without a break (R126, R127, R129). -/
def codeLineHighEvent (s : State) : State :=
  if s.code.readState == .off then { s with code.lineHigh := true }
  else if receiverWatches s.code && !s.code.lineHigh then
    { s with code.lineHigh := true, code.lowSince := none, code.idleTimer := some s.now }
  else s

/-- The idle timer reaches two character times (Table 6-4). -/
def idleTimerExpires (s : State) : State :=
  let s := { s with code.idleTimer := none }
  match s.code.readState with
  | .waitIdle => { s with code.readState := .ready }
  | .receiving => completeRead s
  | .ready | .off | .inBreak => s

/-- IDLE_TIMER_EXPIRY: the running idle timer reaches its end with no character under way (R126). -/
def idleTimerEvent (s : State) : State :=
  match s.code.idleTimer with
  | some since =>
    if receiverWatches s.code && !s.code.underWay then
      idleTimerExpires (advanceTo (since + readIdleTicks s.code.rate) s)
    else s
  | none => s

/-- TRIGGER_SENT: the trigger's stop bit period ends (R129). -/
def triggerSentEvent (lineHigh : Bool) (s : State) : State :=
  match s.code.sending with
  | some sent =>
    let s := advanceTo (sent.since + codeCharacterTicks s.code.rate) s
    if lineHigh then { s with code.sending := none, code.lineHigh := true, code.readState := .ready }
    else
      { s with
        code.sending := none
        code.lineHigh := false
        code.lowSince := some s.now
        code.readState := .waitIdle }
  | none => s

/-! ## The enable (R127) -/

/-- The port is enabled from OFF (R127). -/
def enablePort (s : State) : State :=
  { s with
    code.enable := true
    code.readState := .waitIdle
    code.idleTimer := if s.code.lineHigh then some s.now else none
    code.lowSince := if s.code.lineHigh then none else some s.now }

/-- The port is disabled from ON, in one event (R127). -/
def disablePort (s : State) : State :=
  let s := emptyRead (abandonRead s)
  { s with
    code.enable := false
    code.readState := .off
    code.idleTimer := none
    code.sending := none
    code.underWay := false
    code.lowSince := none }

/-- A stored write of the enable; the value it already holds changes nothing (R127). -/
def storeCodeEnable (on : Bool) (s : State) : State :=
  if on == s.code.enable then s else if on then enablePort s else disablePort s

/-! ## Line reset (R137) -/

/-- The Code Unit's share of a line reset (R137). -/
def codeLineReset (s : State) : State :=
  if s.code.readState == .receiving then
    let s := abandonRead s
    { s with
      code.readState := .waitIdle
      code.idleTimer := if s.code.lineHigh then some s.now else none }
  else s

/-! ## Meanings -/

/-- CODE_CHARACTER (R124). -/
def execCodeCharacter (p : CodePart) (s : State) : Result := event (codeCharacterEvent p) s

/-- CODE_BREAK (R133). -/
def execCodeBreak (s : State) : Result := event codeBreakEvent s

/-- CODE_BREAK_END (R125). -/
def execCodeBreakEnd (s : State) : Result := event codeBreakEndEvent s

/-- IDLE_TIMER_EXPIRY (R126). -/
def execIdleTimerExpiry (s : State) : Result := event idleTimerEvent s

/-- TRIGGER_SENT (R129). -/
def execTriggerSent (lineHigh : Bool) (s : State) : Result := event (triggerSentEvent lineHigh) s

/-- CODE_LINE_HIGH (R126). -/
def execCodeLineHigh (s : State) : Result := event codeLineHighEvent s

end Sys2Proof.Machine
end

