-- ==== Sys2Proof/Machine/Dose.lean ====
section
/-! DEFINITION. The Dose Regulator (chapter 7): eligibility and lag, dose changes, product changes, the gate hand-off and
the evaluation of statistics windows, exchanges with the filler, valve counts and modes, and the meanings of FILL_ACK and
EXCHANGE_TIMEOUT. -/

namespace Sys2Proof.Machine

/-! ## Valves -/

/-- The entry of valve v changed. -/
def modifyValve (v : Nat) (f : Valve → Valve) (s : State) : State := setValve v (f (s.valve v)) s

/-- An exchange is outstanding exactly in these states (R159). -/
def ValveState.inExchange : ValveState → Bool
  | .awaitAck | .locking | .releasing => true
  | .disabled | .regulating | .hold | .lockedOut | .fault => false

/-- The eligible flag of a record at admission (R151). -/
def eligibleNow (s : State) (v : Nat) : Bool :=
  s.valveInCount v && (s.valve v).state == .regulating && (s.valve v).lag == 0

/-- The locked-valve flag of a record at admission (R151). -/
def lockedNow (s : State) (v : Nat) : Bool :=
  s.valveInCount v && (s.valve v).state == .lockedOut

/-- A discharge's lag count decrement (R152). -/
def lagDecrement (v : Nat) (s : State) : State :=
  if s.valveInCount v then modifyValve v (fun x => { x with lag := x.lag - 1 }) s else s

/-- A dose change of valve v (R153). -/
def doseChange (v : Nat) (s : State) : State :=
  let s := markStale v s
  let s := { s with dose.counters.doseChanges := s.dose.counters.doseChanges + 1 }
  let lag := s.activeLag
  modifyValve v (fun x => { x with generation := x.generation + 1, window := [], lag := lag }) s

/-! ## What the regulator lends to the Pass Stage (R36, R148, R154) -/

/-- The trim lent for a valve: the pending trim in AWAIT_ACK, the committed trim in every other state (R148). -/
def Valve.lentTrim (x : Valve) : Int :=
  match x.state, x.pendingTrim with
  | .awaitAck, some t => t
  | _, _ => x.trim

/-- A base dose captured by a TRIM rewrite (R154). -/
def captureBase (v dose : Nat) (s : State) : State :=
  if (s.valve v).base == dose then s
  else
    let s := modifyValve v (fun x => { x with base := dose }) s
    doseChange v { s with dose.counters.baseChanges := s.dose.counters.baseChanges + 1 }

/-! ## Exchanges (R159 to R162) -/

/-- The kind of the frame of an op (section 7.6). -/
def ExchangeOp.kind : ExchangeOp → Byte
  | .dose => kindDoseSet
  | .off => kindValveOff
  | .on => kindValveOn

/-- The tag of an exchange that starts now (R159). -/
def Valve.nextTag (x : Valve) : Byte := x.generation + 1

/-- An own frame to the filler (section 7.6). -/
def fillerFrame (s : State) (op : ExchangeOp) (payload : List Byte) : OwnFrame :=
  ⟨.doseRegulator, s.mgmt.filler, op.kind, payload⟩

/-- The DOSE SET of a trim exchange (R160). -/
def trimFrame (s : State) (v : Nat) (newTrim : Int) : OwnFrame :=
  let x := s.valve v
  let dose := clamp 0 65535 ((x.base : Int) + newTrim)
  fillerFrame s .dose ([x.nextTag, 1, BitVec.ofNat 8 v] ++ leBytes 2 dose.toNat)

/-- The VALVE OFF or VALVE ON of a valve (R161, R162). -/
def valveFrame (s : State) (op : ExchangeOp) (v : Nat) : OwnFrame :=
  fillerFrame s op [(s.valve v).nextTag, BitVec.ofNat 8 v]

/-- An exchange starts on a valve (R159). -/
def Valve.startExchange (op : ExchangeOp) (expiry : Ticks) (x : Valve) : Valve :=
  { x with
    exchange := some (op, x.nextTag)
    abandonedTag := none
    counters.exchanges := x.counters.exchanges + 1
    timer := some expiry }

/-- The moment at which an exchange started now expires (R159). -/
def exchangeExpiry (s : State) : Ticks := s.now + s.dose.ackTimeout * Config.ticksPerMs

/-- A trim exchange is started, or finds the Urgent Queue full (R160). -/
def startTrimExchange (v : Nat) (newTrim : Int) (s : State) : State :=
  match appendUrgent (trimFrame s v newTrim) s with
  | (true, t) =>
    modifyValve v
      (fun x => { x.startExchange .dose (exchangeExpiry s) with state := .awaitAck, pendingTrim := some newTrim }) t
  | (false, t) => { t with dose.counters.notStarted := t.dose.counters.notStarted + 1 }

/-- A lockout that is due is started or deferred (R161). -/
def startLockout (v : Nat) (s : State) : State :=
  match appendUrgent (valveFrame s .off v) s with
  | (true, t) =>
    modifyValve v (fun x => { x.startExchange .off (exchangeExpiry s) with state := .locking, window := [] }) t
  | (false, t) => { t with dose.counters.deferred := t.dose.counters.deferred + 1 }

/-! ## Gate hand-off and statistics (R155 to R158) -/

/-- Whether a record's weight result is GOOD. -/
def weightGood (r : CanRecord) : Bool :=
  match r.weight with
  | some w => w.quality == .good
  | none => false

/-- The limit count after a hand-off (R155, step 2). -/
def limitAfter (r : CanRecord) (x : Valve) : Nat :=
  if x.state == .disabled then x.limitCount
  else if r.reasons.contains .under || r.reasons.contains .over then min 255 (x.limitCount + 1)
  else if r.verdict == .accept && weightGood r then 0
  else x.limitCount

/-- The weight a hand-off enters into its valve's window, if it enters one (R156). -/
def enteredWeight (s : State) (r : CanRecord) : Option Int :=
  match r.weight with
  | some w =>
    if r.eligible && !r.stale && w.quality == .good && !w.test && r.code != some .tagMismatch
        && r.product.isSome && r.product == s.dose.active && (s.valve r.valve).state == .regulating
    then some w.net else none
  | none => none

/-- The change of trim an error calls for (R157, step 4). -/
def trimChange (p : Product) (error : Int) : Int :=
  clamp (-(p.maxStep.toNat : Int)) p.maxStep.toNat ((-error).tdiv ((p.gain.toNat * p.divisor : Nat) : Int))

/-- The new trim from the committed trim and an error (R157, step 5). -/
def newTrim (p : Product) (committed error : Int) : Int :=
  clamp (-(p.trimLimit.toNat : Int)) p.trimLimit.toNat (committed + trimChange p error)

/-- A window of N weights is evaluated (R157, R158). -/
def evaluateWindow (p : Product) (v : Nat) (s : State) : State :=
  let weights := (s.valve v).window
  let mean := (weights.foldl (· + ·) 0).tdiv (p.window.toNat : Int)
  let error := mean - p.target.toInt
  let s := modifyValve v (fun x => { x with window := [] })
    { s with dose.counters.evaluations := s.dose.counters.evaluations + 1 }
  if error.natAbs ≤ p.deadband.toNat then
    { s with dose.counters.deadband := s.dose.counters.deadband + 1 }
  else
    let t := newTrim p (s.valve v).trim error
    if t == (s.valve v).trim then { s with dose.counters.noChange := s.dose.counters.noChange + 1 }
    else startTrimExchange v t s

/-- Whether a lockout is due at a hand-off (R155, step 3). -/
def lockoutDue (p : Product) (x : Valve) : Bool :=
  decide (0 < p.lockout.toNat) && decide (p.lockout.toNat ≤ x.limitCount)
    && (x.state == .regulating || x.state == .hold)

/-- Steps 4 and 5 of a hand-off (R155): the weight is entered and a full window evaluated. -/
def enterWeight (p : Product) (r : CanRecord) (s : State) : State :=
  match enteredWeight s r with
  | none => s
  | some net =>
    let s := modifyValve r.valve
      (fun x => { x with window := x.window ++ [net], counters.entered := x.counters.entered + 1 }) s
    if p.window.toNat ≤ (s.valve r.valve).window.length then evaluateWindow p r.valve s else s

/-- The gate hand-off of a record as it stands after its verdict (R155). A record of valve 0 is not handed over. -/
def gateHandOff (r : CanRecord) (s : State) : State :=
  if r.valve == 0 then s
  else
    let s := modifyValve r.valve
      (fun x => { x with counters.handOffs := x.counters.handOffs + 1, limitCount := limitAfter r x }) s
    match s.activeProduct with
    | none => s
    | some p =>
      let s := if lockoutDue p (s.valve r.valve) then startLockout r.valve s else s
      enterWeight p r s

/-! ## Acks and timeouts (R163 to R165) -/

/-- The op that an ack's op kind names (R163). -/
def ackOp (k : Byte) : Option ExchangeOp :=
  if k == kindDoseSet then some .dose
  else if k == kindValveOff then some .off
  else if k == kindValveOn then some .on
  else none

/-- Whether a valve awaits an op (R163). -/
def awaits (st : ValveState) : ExchangeOp → Bool
  | .dose => st == .awaitAck
  | .off => st == .locking
  | .on => st == .releasing

/-- A valve's exchange ends (R159): none, and the timer stopped. -/
def Valve.endExchange (x : Valve) : Valve := { x with exchange := none, timer := none }

/-- A taken ack refuses: the valve enters FAULT (Table 7-5). -/
def ackRefused (v : Nat) (s : State) : State :=
  raise .valveFault
    (modifyValve v
      (fun x =>
        { x.endExchange with state := .fault, pendingTrim := none, counters.refusals := x.counters.refusals + 1 }) s)

/-- A taken ack accepts (Table 7-5). -/
def ackAccepted (op : ExchangeOp) (v : Nat) (s : State) : State :=
  match op with
  | .dose =>
    doseChange v
      (modifyValve v
        (fun x =>
          { x.endExchange with state := .regulating, trim := x.pendingTrim.getD x.trim, pendingTrim := none }) s)
  | .off =>
    let s := modifyValve v (fun x => { x.endExchange with state := .lockedOut }) s
    raise .valveLocked { s with dose.counters.lockouts := s.dose.counters.lockouts + 1 }
  | .on =>
    let s := modifyValve v (fun x => { x.endExchange with state := .regulating, limitCount := 0 }) s
    doseChange v { s with dose.counters.releases := s.dose.counters.releases + 1 }

/-- A FILL ACK handed over is classed and acted on (R163, R164). -/
def takeAck (opKind tag valve status : Byte) (s : State) : State :=
  match ackOp opKind with
  | none => { s with dose.counters.unknownAcks := s.dose.counters.unknownAcks + 1 }
  | some op =>
    let v := valve.toNat
    if !s.valveInCount v then { s with dose.counters.unknownAcks := s.dose.counters.unknownAcks + 1 }
    else
      let x := s.valve v
      if awaits x.state op then
        if x.exchange.map Prod.snd == some tag then
          if status == 0 then ackAccepted op v s else ackRefused v s
        else { s with dose.counters.staleAcks := s.dose.counters.staleAcks + 1 }
      else if op == .dose && x.abandonedTag == some tag then
        { s with dose.counters.staleAcks := s.dose.counters.staleAcks + 1 }
      else { s with dose.counters.lateAcks := s.dose.counters.lateAcks + 1 }

/-- A valve's exchange timer expires (R165). -/
def exchangeTimeoutEvent (v : Nat) (s : State) : State :=
  match (s.valve v).timer with
  | some due =>
    raise .valveFault
      (modifyValve v
        (fun x =>
          { x.endExchange with state := .fault, pendingTrim := none, counters.timeouts := x.counters.timeouts + 1 })
        (advanceTo due s))
  | none => s

/-! ## Product changes (R145 to R147) -/

/-- An exchange of a valve in AWAIT_ACK is abandoned (R147). -/
def Valve.abandon (x : Valve) : Valve :=
  if x.state == .awaitAck then
    { x.endExchange with state := .regulating, pendingTrim := none, abandonedTag := x.exchange.map Prod.snd }
  else x

/-- What a product change sets in every valve (R146, step 3). -/
def Valve.onProductChange (nominal lag : Nat) (x : Valve) : Valve :=
  { x with
    trim := 0
    base := nominal
    window := []
    limitCount := 0
    generation := x.generation + 1
    lag := lag }

/-- Marks every record of valves 1 to 48 stale (R146, step 3). -/
def markAllStale (s : State) : State :=
  { s with track.queue := s.track.queue.map (fun r => if r.valve == 0 then r else { r with stale := true }) }

/-- A product change to entry p (R146). -/
def productChange (p : Nat) (s : State) : State :=
  let s := { s with dose.active := some p, dose.counters.productChanges := s.dose.counters.productChanges + 1 }
  let s := { s with dose.valves := s.dose.valves.map Valve.abandon }
  let (n, s) := withdraw .doseRegulator kindDoseSet s
  let s := { s with dose.counters.withdrawn := s.dose.counters.withdrawn + BitVec.ofNat 32 n }
  let e := s.product p
  let s := markAllStale s
  let s := { s with dose.valves := s.dose.valves.map (Valve.onProductChange e.nominal.toNat e.lag) }
  let s := { s with dose.counters.doseChanges := s.dose.counters.doseChanges + BitVec.ofNat 32 Config.valves }
  raise .productChanged s

/-- The non-empty entry that holds a code (R141, R145). -/
def findProduct (code : BitVec 16) (s : State) : Option Nat :=
  if code == 0xFFFF then none else s.dose.products.findIdx? (fun p => p.code == code)

/-- SELECT PRODUCT as the Dose Regulator answers it (R145). -/
def selectProduct (code : BitVec 16) (s : State) : Status × State :=
  match findProduct code s with
  | none => (.badValue, s)
  | some p => if s.dose.active == some p then (.ok, s) else (.ok, productChange p s)

/-- A snooped PRODUCT SELECT (R145). -/
def snoopedProduct (code : BitVec 16) (s : State) : State :=
  match findProduct code s with
  | none => raise .unknownProduct { s with dose.counters.unknownProducts := s.dose.counters.unknownProducts + 1 }
  | some p => if s.dose.active == some p then s else productChange p s

/-! ## VALVE RELEASE and VALVE CLEAR (R162, R167) -/

/-- VALVE RELEASE as the Dose Regulator answers it, with its detail (R162). -/
def releaseValve (v : Nat) (s : State) : (Status × Byte) × State :=
  if !s.valveInCount v then ((.badIndex, 0), s)
  else if (s.valve v).state != .lockedOut then ((.badValue, 0), s)
  else if s.mgmt.filler == 0 then ((.notReady, detailStations), s)
  else match appendUrgent (valveFrame s .on v) s with
    | (true, t) =>
      ((.ok, 0), modifyValve v (fun x => { x.startExchange .on (exchangeExpiry s) with state := .releasing }) t)
    | (false, t) => ((.busy, 0), t)

/-- VALVE CLEAR as the Dose Regulator answers it (R167). -/
def clearValve (v : Nat) (s : State) : Status × State :=
  if !s.valveInCount v then (.badIndex, s)
  else if (s.valve v).state != .fault then (.badValue, s)
  else (.ok, doseChange v (modifyValve v (fun x => { x with state := .regulating }) s))

/-! ## The valve count (R150) -/

/-- The valves a new count would put above the count (R150). -/
def leavingValves (s : State) (count : Nat) : List Nat :=
  ((List.range (Config.valves + 1)).filter (fun v => decide (count < v) && decide (v ≤ s.dose.valveCount)))

/-- The refusal of a valve count write by the state of the valves it would put above the count (R150). -/
def valveCountRefusal (s : State) (count : Nat) : Option Status :=
  if (leavingValves s count).any (fun v => (s.valve v).state.inExchange) then some .busy
  else if (leavingValves s count).any
      (fun v => (s.valve v).state == .lockedOut || (s.valve v).state == .fault) then some .inUse
  else none

/-- Valve v after the count changes from `old` to `new` (R150). A valve above the new count has its window, limit count
and lag count cleared, whether or not the old count held it (log 27). -/
def Valve.onCount (old new lag v : Nat) (x : Valve) : Valve :=
  if new < v then { x with state := .disabled, window := [], limitCount := 0, lag := 0 }
  else if old < v then { x with state := .regulating, window := [], limitCount := 0, lag := lag }
  else x

/-- A stored valve count (R150, R49). -/
def storeValveCount (count : Nat) (s : State) : State :=
  if count == s.dose.valveCount then s
  else
    let old := s.dose.valveCount
    let lag := s.activeLag
    { s with
      dose.valveCount := count
      dose.valves := s.dose.valves.mapIdx (fun i x => x.onCount old count lag (i + 1))
      input.index := .unknown }

/-! ## Valve modes (R168) -/

/-- The state that a mode byte names; none for a mode above 2 (Table 10-9). -/
def modeState (b : Byte) : Option ValveState :=
  match b.toNat with
  | 0 => some .disabled
  | 1 => some .regulating
  | 2 => some .hold
  | _ => none

/-- The refusal of a mode write to one valve (R168, R196). That a mode above 2 for a valve above the count, or with the
count unset, is BAD_INDEX and not BAD_VALUE is the model's order of the two tests (log 30, DEDUCED): R196 places the mode
test before BUSY and IN_USE only. -/
def modeRefusal (s : State) (v : Nat) (b : Byte) : Option Status :=
  if !s.valveInCount v then some .badIndex
  else if (modeState b).isNone then some .badValue
  else if (s.valve v).state.inExchange then some .busy
  else if (s.valve v).state == .lockedOut || (s.valve v).state == .fault then some .inUse
  else none

/-- A stored mode (R168). -/
def Valve.setMode (st : ValveState) (x : Valve) : Valve :=
  if x.state == st then x
  else if st == .disabled then { x with state := st, window := [], limitCount := 0 }
  else { x with state := st, window := [] }

/-- A stored mode byte for valve v. -/
def storeMode (v : Nat) (b : Byte) (s : State) : State :=
  match modeState b with
  | some st => modifyValve v (Valve.setMode st) s
  | none => s

/-! ## Line reset (R169) -/

/-- What a line reset does to one valve (R169). -/
def Valve.onLineReset (lag : Nat) (x : Valve) : Valve :=
  let x := if x.state.inExchange then { x.endExchange with state := .fault, pendingTrim := none } else x
  { x with window := [], limitCount := 0, lag := lag }

/-- The Dose Regulator's share of a line reset (R169). -/
def doseLineReset (s : State) : State :=
  let cut := s.dose.valves.any (fun x => x.state.inExchange)
  let lag := s.activeLag
  let s := { s with dose.valves := s.dose.valves.map (Valve.onLineReset lag) }
  if cut then raise .valveFault s else s

/-! ## Meanings -/

/-- EXCHANGE_TIMEOUT (R165). -/
def execExchangeTimeout (valve : Byte) (s : State) : Result :=
  event (fun s => if 1 ≤ valve.toNat && valve.toNat ≤ Config.valves then exchangeTimeoutEvent valve.toNat s else s) s

/-- FILL_ACK (R163). In repeater-only mode none is handed over (R28, log 8). -/
def execFillAck (op tag valve status : Byte) (s : State) : Result :=
  event (fun s => if repeaterOnly s then s else takeAck op tag valve status s) s

end Sys2Proof.Machine
end

