-- ==== Sys2Proof/Machine/Verdict.lean ====
section
/-! DEFINITION. The Verdict Unit (chapter 8): reasons and verdicts, the reject pulse, the confirm check, the stop latch and
the lost run, the views of the REJECT and STOP pins, and the meaning of REJECT_PULSE_EXPIRY. -/

namespace Sys2Proof.Machine

/-! ## Reasons and verdict (R171, R172) -/

/-- Whether a GOOD net lies below the lower limit of the record's product; a stray has none (R171). -/
def isUnder (s : State) (r : CanRecord) : Bool :=
  match r.weight, r.product with
  | some w, some p => w.quality == .good && decide (w.net < (s.product p).lower.toInt)
  | _, _ => false

/-- Whether a GOOD net lies above the upper limit of the record's product (R171). -/
def isOver (s : State) (r : CanRecord) : Bool :=
  match r.weight, r.product with
  | some w, some p => w.quality == .good && decide ((s.product p).upper.toInt < w.net)
  | _, _ => false

/-- Whether a record's weight result has a quality. -/
def hasQuality (q : Quality) (r : CanRecord) : Bool :=
  match r.weight with
  | some w => w.quality == q
  | none => false

/-- Whether a reason is found in a record as it stands (R171, Table 8-2). -/
def reasonFound (s : State) (r : CanRecord) : Reason → Bool
  | .under => isUnder s r
  | .over => isOver s r
  | .unsettled => hasQuality .unsettled r
  | .overlap => hasQuality .overlap r
  | .sampleFault => hasQuality .sampleFault r
  | .stray => r.reasons.contains .stray
  | .noread => r.code == some .noread
  | .badcode => r.code == some .badcode
  | .contentMismatch => r.code == some .contentMismatch
  | .tagMismatch => r.code == some .tagMismatch
  | .notPrinted => r.print == .skipped
  | .lockedValve => r.locked

/-- The reasons collected from a record, in the order of Table 8-2 (R171). -/
def collectReasons (s : State) (r : CanRecord) : List Reason := Reason.all.filter (reasonFound s r)

/-- The reject mask that judges a record: its product's; none is read for a stray (R172). -/
def rejectMask (s : State) (r : CanRecord) : Byte :=
  match r.product with
  | some p => (s.product p).mask
  | none => 0

/-- The verdict of collected reasons under a mask (R172). -/
def decideVerdict (mask : Byte) (rs : List Reason) : Verdict :=
  if rs.any (fun x => x.mandatory || maskEnables mask x) then .reject else .accept

/-! ## The reject pulse (R174) -/

/-- A REJECT verdict starts or restarts the pulse (R174). -/
def startPulse (s : State) : State :=
  let expiry := s.now + s.verdict.pulseTime * Config.ticksPerMs
  if s.verdict.pulse.isSome then
    { s with
      verdict.pulse := some expiry
      verdict.counters.pulseRestarts := s.verdict.counters.pulseRestarts + 1 }
  else
    { s with
      verdict.pulse := some expiry
      verdict.counters.pulsesStarted := s.verdict.counters.pulsesStarted + 1 }

/-- The pulse timer expires (R174). -/
def rejectPulseEvent (s : State) : State :=
  match s.verdict.pulse with
  | some due => { advanceTo due s with verdict.pulse := none }
  | none => s

/-- The REJECT output: on exactly while the pulse timer runs, and off while RESET is low (R54, R174). -/
def State.rejectOn (s : State) : Bool := !s.resetLow && s.verdict.pulse.isSome

/-! ## The gate decision (R173) -/

/-- Counts a gate decision, its verdict and its reasons (R173, step 4). -/
def countDecision (v : Verdict) (rs : List Reason) (c : VerdictCounters) : VerdictCounters :=
  let c := { c with
    gateDecisions := c.gateDecisions + 1
    reasons := rs.foldl (fun cs x => bumpAt cs (Reason.bit x)) c.reasons }
  match v with
  | .reject => { c with rejects := c.rejects + 1 }
  | .accept | .pending => { c with accepts := c.accepts + 1 }

/-- The gate decision of a record (R173). -/
def gateDecision (n : Serial) (s : State) : State :=
  match findRecord n s.track.queue with
  | none => s
  | some r =>
    let rs := collectReasons s r
    let v := decideVerdict (rejectMask s r) rs
    let r' := { r with verdict := v, reasons := rs }
    let s := writeRecord n (fun r => { r with verdict := v, reasons := rs }) s
    let s := if v == .reject then startPulse s else s
    let s := if s.valveInCount r.valve then gateHandOff r' s else s
    { s with verdict.counters := countDecision v rs s.verdict.counters }

/-! ## The stop latch (R177 to R179) -/

/-- A cause is posted to the stop latch (R177). -/
def postCause (c : Cause) (s : State) : State :=
  let wasEmpty := s.verdict.stopLatch.isEmpty
  let s := { s with
    verdict.stopLatch := s.verdict.stopLatch.add c
    verdict.counters := s.verdict.counters.post c }
  if wasEmpty then raise .stopSet s else s

/-- The STOP output: on exactly while the latch holds a cause, and off while RESET is low (R55, R177). -/
def State.stopOn (s : State) : Bool := !s.resetLow && !s.verdict.stopLatch.isEmpty

/-- CLEAR STOP (R179). The clear is counted whether or not the latch held anything (log 28). -/
def clearStopLatch (s : State) : State :=
  { s with
    verdict.stopLatch := {}
    verdict.counters.stopClears := s.verdict.counters.stopClears + 1 }

/-- A record is lost at the platform eye (R178). -/
def lostRunLoss (s : State) : State :=
  let s := { s with verdict.lostRun := min 255 (s.verdict.lostRun + 1) }
  if decide (0 < s.verdict.lostRunLimit) && decide (s.verdict.lostRunLimit ≤ s.verdict.lostRun) then
    postCause .lostRun s
  else s

/-- A matched arrival returns the lost-run count to 0 (R178). -/
def lostRunMatched (s : State) : State := { s with verdict.lostRun := 0 }

/-! ## The confirm eye (R175, R176) -/

/-- A record that a confirm event at count E fits (R175). -/
def confirmFits (dk wk : Nat) (e : Count) (r : CanRecord) : Bool :=
  match r.arrival with
  | some a =>
    windowContains (behind (ahead a dk) wk) (ahead (ahead a dk) wk) e && !r.passed.confirmClose && r.confirm.isNone
  | none => false

/-- The oldest record that a confirm event at count E fits. -/
def confirmCandidate (s : State) (e : Count) : Option CanRecord :=
  match s.dk, s.wk with
  | some dk, some wk => s.track.queue.find? (confirmFits dk wk e)
  | _, _ => none

/-- A confirm event at count E (R175). -/
def confirmAt (e : Count) (s : State) : State :=
  match s.track.line with
  | .idle => { s with verdict.counters.confirmIdle := s.verdict.counters.confirmIdle + 1 }
  | .run =>
    match confirmCandidate s e with
    | some r =>
      writeRecord r.serial (fun r => { r with confirm := some .seen })
        { s with verdict.counters.confirmAssigned := s.verdict.counters.confirmAssigned + 1 }
    | none => { s with verdict.counters.confirmUnassigned := s.verdict.counters.confirmUnassigned + 1 }

/-- The confirm check at a record's confirm window close (R176, Table 8-3). -/
def confirmCheck (n : Serial) (s : State) : State :=
  match findRecord n s.track.queue with
  | none => s
  | some r =>
    let seen := r.confirm == some .seen
    let s := if r.confirm.isNone then writeRecord n (fun r => { r with confirm := some .notSeen }) s else s
    match r.verdict, seen with
    | .reject, true =>
      postCause .escape { s with verdict.counters.escapes := s.verdict.counters.escapes + 1 }
    | .reject, false =>
      { s with verdict.counters.confirmedRejects := s.verdict.counters.confirmedRejects + 1 }
    | _, true => { s with verdict.counters.confirmedAccepts := s.verdict.counters.confirmedAccepts + 1 }
    | _, false => raise .missingCan { s with verdict.counters.missing := s.verdict.counters.missing + 1 }

/-! ## Line reset (R180) -/

/-- The Verdict Unit's share of a line reset (R180). -/
def verdictLineReset (s : State) : State := { s with verdict.pulse := none, verdict.lostRun := 0 }

/-! ## Meanings -/

/-- REJECT_PULSE_EXPIRY (R174). -/
def execRejectPulseExpiry (s : State) : Result := event rejectPulseEvent s

end Sys2Proof.Machine
end

