-- ==== Sys2Proof/Machine/Weighing.lean ====
section
/-! DEFINITION. The Weighing Engine (chapter 5): the sample port, the engine states and the window slot, the settle
detector, zero capture, zero tracking, test mode, and the meanings of the sample port's commands. -/

namespace Sys2Proof.Machine

/-! ## Views -/

/-- The engine states of section 5.2. -/
inductive EngineState where
  | empty
  | capture
  | loaded
  deriving DecidableEq, Repr

/-- LOADED exactly while the slot holds an OPEN window; CAPTURE while a capture collects; EMPTY otherwise (section 5.2). -/
def engineState (s : State) : EngineState :=
  match s.weigh.slot with
  | .opened _ => .loaded
  | _ => if s.weigh.capture.isSome then .capture else .empty

/-- A block with one more sample. -/
def SampleBlock.add (b : SampleBlock) (x : Int) : SampleBlock :=
  if b.count == 0 then ⟨1, x, x, x⟩ else ⟨b.count + 1, min b.least x, max b.most x, b.sum + x⟩

/-- A block is quiet when its greatest sample less its least is at or below the band (R100, R108). -/
def SampleBlock.quiet (b : SampleBlock) (band : Nat) : Bool := b.most - b.least ≤ (band : Int)

/-- The current tracking block and the run are discarded (R110). -/
def discardTracking (s : State) : State :=
  { s with weigh.block := SampleBlock.empty, weigh.run := TrackingRun.empty }

/-- Zero tracking runs while its enable is on, test mode is OFF, the engine is EMPTY and the slot is none (R108). -/
def zeroTrackingRuns (s : State) : Bool :=
  s.weigh.zeroTracking && !s.weigh.testMode && engineState s == .empty && s.weigh.slot == .none

/-! ## Results (R101 to R104) -/

/-- The quality of a window that closes or ends, by the first that holds (R101). -/
def decideQuality (fault overlap atOnce settled : Bool) : Quality :=
  if fault then .sampleFault
  else if overlap || atOnce then .overlap
  else if settled then .good
  else .unsettled

/-- The net weight of a GOOD window before it is held to the reported range (R102): the mean less the zero, times the
factor, over 2^20, less the tare; each division rounds toward zero. -/
def netWeight (sum : Int) (samples : Nat) (zero : Int) (factor : Nat) (tare : Int) : Int :=
  ((sum.tdiv samples - zero) * factor).tdiv (2 ^ 20) - tare

/-- The tare of the record's product entry; a stray, which has no product, has none (R102). -/
def tareOf (s : State) (n : Serial) : Int :=
  match findRecord n s.track.queue with
  | some r =>
    match r.product with
    | some p => ((s.product p).tare.toNat : Int)
    | none => 0
  | none => 0

/-- Counts a result by its quality, and a test window's in the test counter too (R101). -/
def countResult (q : Quality) (test : Bool) (c : WeighingCounters) : WeighingCounters :=
  let c := if test then { c with test := c.test + 1 } else c
  match q with
  | .good => { c with good := c.good + 1 }
  | .unsettled => { c with unsettled := c.unsettled + 1 }
  | .overlap => { c with overlap := c.overlap + 1 }
  | .sampleFault => { c with sampleFault := c.sampleFault + 1 }

/-- Writes a weight result into a record, once (R61, R104). -/
def writeWeight (n : Serial) (w : WeightResult) (s : State) : State :=
  writeRecord n (fun r => if r.weight.isNone then { r with weight := some w } else r) s

/-- Decides and writes the result of a window (R101, R102, R104). -/
def finishWindow (n : Serial) (q : Quality) (samples : Nat) (sum : Int) (test : Bool) (s : State) : State :=
  let raw := if q == .good then netWeight sum samples s.weigh.zero s.weigh.factor (tareOf s n) else 0
  let net := clamp Config.netLeast Config.netMost raw
  let s := { s with weigh.counters := countResult q test s.weigh.counters }
  let s := if net == raw then s else { s with weigh.counters.clamps := s.weigh.counters.clamps + 1 }
  writeWeight n ⟨net, samples, q, test⟩ s

/-- The window in the slot ends at once (R97), and the slot becomes none. -/
def endWindowAtOnce (s : State) : State :=
  match s.weigh.slot with
  | .none => s
  | .pending n _ =>
    finishWindow n (decideQuality s.weigh.sampleLoss true true false) 0 0 false { s with weigh.slot := .none }
  | .opened w =>
    finishWindow w.serial (decideQuality w.fault true true w.settled) w.samples w.sum w.test.isSome
      { s with weigh.slot := .none }

/-! ## Capture (R105 to R107) -/

/-- A capture is abandoned: the accumulator is emptied and the abandonment counted; the zero keeps its value (R107). -/
def dropCapture (s : State) : State :=
  if s.weigh.capture.isSome then
    discardTracking
      { s with
        weigh.capture := none
        weigh.counters.capturesAbandoned := s.weigh.counters.capturesAbandoned + 1 }
  else s

/-! ## What the Tracking Unit tells the engine -/

/-- An arrival hand-off (R94, R97, R107). -/
def engineArrival (n : Serial) (s : State) : State :=
  if s.weigh.capture.isSome then
    let s := dropCapture s
    appendZeroReply .zeroAbandoned { s with weigh.slot := .pending n false }
  else
    match s.weigh.slot with
    | .none => discardTracking { s with weigh.slot := .pending n false }
    | _ =>
      let s := endWindowAtOnce s
      discardTracking { s with weigh.slot := .pending n true }

/-- An untracked can is on the platform (R98). -/
def engineUntracked (s : State) : State :=
  if s.weigh.capture.isSome then appendZeroReply .zeroAbandoned (dropCapture s)
  else discardTracking (endWindowAtOnce s)

/-- The test weight a test window takes (R113): entry 0 in FIXED, the entry at the step pointer in STEP. -/
def testWeight (t : TestState) : Int :=
  match t.mode with
  | .fixed => t.weights.getD 0 0
  | .step => t.weights.getD t.pointer 0

/-- The step pointer after a test window's open (R113). -/
def advancePointer (t : TestState) : TestState :=
  match t.mode with
  | .fixed => t
  | .step => { t with pointer := if t.pointer + 1 < t.count then t.pointer + 1 else 0 }

/-- The owner's window opens (R95, R113). -/
def engineOpen (s : State) : State :=
  match s.weigh.slot with
  | .pending n overlap =>
    let test : Option TestWindow :=
      if s.weigh.testMode then some ⟨testWeight s.weigh.test, s.weigh.test.ripple, 0⟩ else none
    let w : OpenWindow :=
      { serial := n, overlap := overlap, blockSize := s.weigh.blockSize, settleBand := s.weigh.settleBand,
        block := SampleBlock.empty, settled := false, samples := 0, sum := 0,
        fault := s.weigh.sampleLoss && !s.weigh.testMode, test := test }
    { s with
      weigh.slot := .opened w
      weigh.test := if s.weigh.testMode then advancePointer s.weigh.test else s.weigh.test }
  | _ => s

/-- The owner's window closes (R96). -/
def engineClose (s : State) : State :=
  match s.weigh.slot with
  | .opened w =>
    discardTracking
      (finishWindow w.serial (decideQuality w.fault w.overlap false w.settled) w.samples w.sum w.test.isSome
        { s with weigh.slot := .none })
  | _ => s

/-- The window is abandoned, at a STOP in RUN or a line reset (R99): an OPEN one is counted, a PENDING one is not. -/
def engineAbandon (s : State) : State :=
  match s.weigh.slot with
  | .none => s
  | .pending _ _ => { s with weigh.slot := .none }
  | .opened _ =>
    { s with weigh.slot := .none, weigh.counters.abandonedWindows := s.weigh.counters.abandonedWindows + 1 }

/-! ## Samples -/

/-- The synthetic sample of a test window (R113): the zero now, the test weight in counts, the ripple entry, held to the
sample range. A calibration factor of 0 is never divided by: TEST ON is refused while it is 0 (log 17). -/
def syntheticSample (zero : Int) (factor : Nat) (t : TestWindow) : Int :=
  clamp Config.sampleLeast Config.sampleMost
    (zero + (t.weight * 2 ^ 20).tdiv factor + t.ripple.getD t.index 0)

/-- An unfaulted sample into an OPEN window (R100). -/
def OpenWindow.take (w : OpenWindow) (x : Int) : OpenWindow :=
  if w.settled then
    if w.samples < Config.sumCapacity then { w with samples := w.samples + 1, sum := w.sum + x } else w
  else
    let b := w.block.add x
    if b.count < w.blockSize then { w with block := b }
    else if b.quiet w.settleBand then
      { w with block := SampleBlock.empty, settled := true, samples := b.count, sum := b.sum }
    else { w with block := SampleBlock.empty }

/-- A sample delivered to an OPEN window (R100, R113). -/
def windowSample (x : Int) (faulted : Bool) (zero : Int) (factor : Nat) (w : OpenWindow) : OpenWindow :=
  match w.test with
  | some t =>
    let w := w.take (syntheticSample zero factor t)
    { w with test := some { t with index := (t.index + 1) % 4 } }
  | none => if faulted then { w with fault := true } else w.take x

/-- An unfaulted sample into a capture; the 256th completes it (R106). -/
def captureSample (x : Int) (a : CaptureAccumulator) (s : State) : State :=
  let a : CaptureAccumulator := ⟨a.count + 1, a.sum + x⟩
  if a.count < Config.captureSamples then { s with weigh.capture := some a }
  else
    appendZeroReply .ok
      (discardTracking
        { s with
          weigh.zero := a.sum.tdiv Config.captureSamples
          weigh.capture := none
          weigh.counters.captures := s.weigh.counters.captures + 1 })

/-- A run of 64 quiet blocks is evaluated and emptied (R109). -/
def evaluateRun (sum : Int) (s : State) : State :=
  let difference := sum.tdiv ((Config.trackingRunBlocks * s.weigh.blockSize : Nat) : Int) - s.weigh.zero
  let s := discardTracking s
  if difference.natAbs ≤ s.weigh.zeroBand then
    { s with
      weigh.zero := s.weigh.zero + difference.tdiv 4
      weigh.counters.adjustments := s.weigh.counters.adjustments + 1 }
  else raise .zeroDrift { s with weigh.counters.drifts := s.weigh.counters.drifts + 1 }

/-- An unfaulted sample into zero tracking (R108). -/
def trackingSample (x : Int) (s : State) : State :=
  let b := s.weigh.block.add x
  if b.count < s.weigh.blockSize then { s with weigh.block := b }
  else if b.quiet s.weigh.settleBand then
    let run : TrackingRun := ⟨s.weigh.run.blocks + 1, s.weigh.run.sum + b.sum⟩
    if run.blocks < Config.trackingRunBlocks then { s with weigh.block := SampleBlock.empty, weigh.run := run }
    else evaluateRun run.sum s
  else discardTracking s

/-- A sample delivered to the engine, used according to its state (R90, R100, R106, R108, R110). -/
def deliverSample (x : Int) (faulted : Bool) (s : State) : State :=
  let s := if faulted then discardTracking s else s
  match s.weigh.slot with
  | .opened w => { s with weigh.slot := .opened (windowSample x faulted s.weigh.zero s.weigh.factor w) }
  | _ =>
    if faulted then s
    else match s.weigh.capture with
      | some a => captureSample x a s
      | none => if zeroTrackingRuns s then trackingSample x s else s

/-- The sample field of a frame, signed (R90). -/
def sampleOf (w : BitVec 32) : Int := (w.extractLsb' 8 24).toInt

/-- Whether a frame's status has the overrange or the converter-fault flag set (R90). -/
def sampleFaulted (w : BitVec 32) : Bool := w.getLsbD 7 || w.getLsbD 6

/-- At a frame's completion the loss timer restarts, and SAMPLE LOSS is cleared by an unfaulted sample (R91). -/
def restartLossTimer (faulted : Bool) (s : State) : State :=
  let s := { s with weigh.lossTimer := some s.now }
  if s.weigh.sampleLoss && !faulted then raise .sampleLossOff { s with weigh.sampleLoss := false } else s

/-- A sample frame completes (R89, R90, R91). -/
def completeSampleFrame (w : BitVec 32) (s : State) : State :=
  let faulted := sampleFaulted w
  let s := { s with weigh.receiver := .idle, weigh.counters.frames := s.weigh.counters.frames + 1 }
  let s := if faulted then { s with weigh.counters.faulted := s.weigh.counters.faulted + 1 } else s
  deliverSample (sampleOf w) faulted (restartLossTimer faulted s)

/-- SMP SYNC rises within a frame (R89): the partial frame is abandoned and counted, and a new one starts. With no frame
begun the event cannot come about (log 1). -/
def shortFrameEvent (s : State) : State :=
  match s.weigh.receiver with
  | .idle => s
  | .taking _ => { s with weigh.receiver := .taking [], weigh.counters.short := s.weigh.counters.short + 1 }

/-- A rising edge of SMP SYNC starts a frame, and makes a partial one short (R89). -/
def sampleSync (s : State) : State :=
  match s.weigh.receiver with
  | .idle => { s with weigh.receiver := .taking [] }
  | .taking _ => shortFrameEvent s

/-- The 32 bits of a frame in the order they were taken, the first the most significant (R89). -/
def sampleWord (bits : List Bool) : BitVec 32 := BitVec.ofNat 32 (bits.foldl (fun n b => 2 * n + b.toNat) 0)

/-- A rising edge of SMP CLK takes a bit, and the 32nd completes the frame; with no frame begun it is ignored (R89). -/
def sampleClock (data : Bool) (s : State) : State :=
  match s.weigh.receiver with
  | .idle => s
  | .taking bits =>
    let bits := bits ++ [data]
    if bits.length < Config.sampleFrameBits then { s with weigh.receiver := .taking bits }
    else completeSampleFrame (sampleWord bits) s

/-- A frame given whole (R89, log 20): its rising edge of SMP SYNC makes a partial frame of one bit or more short, and its
32 bits complete it. -/
def wholeSampleFrame (w : BitVec 32) (s : State) : State :=
  match s.weigh.receiver with
  | .idle | .taking [] => completeSampleFrame w s
  | .taking (_ :: _) => completeSampleFrame w (shortFrameEvent s)

/-- SAMPLE_FRAME: what the sample port sees of a frame (R89). -/
def sampleFrameEvent (p : SamplePart) (s : State) : State :=
  match p with
  | .sync => sampleSync s
  | .clk data => sampleClock data s
  | .frame w => wholeSampleFrame w s

/-- Four nominal sample periods in clock units (R91). -/
def lossTicks (rate : Nat) : Ticks := periodTicks Config.lossPeriods rate

/-- SAMPLE LOSS being set faults an OPEN window that is not a test window (R100). -/
def faultOpenWindow (s : State) : State :=
  match s.weigh.slot with
  | .opened w =>
    if w.test.isNone then { s with weigh.slot := .opened { w with fault := true } } else s
  | _ => s

/-- The loss timer expires (R91): it stops; SAMPLE LOSS, if clear, is set, counted and raised. -/
def lossExpiry (s : State) : State :=
  let s := { s with weigh.lossTimer := none }
  if s.weigh.sampleLoss then s
  else
    let s := { s with weigh.sampleLoss := true, weigh.counters.losses := s.weigh.counters.losses + 1 }
    raise .sampleLossOn (discardTracking (faultOpenWindow s))

/-- SAMPLE_LOSS: the running loss timer reaches its expiry (R91). -/
def sampleLossEvent (s : State) : State :=
  match s.weigh.lossTimer with
  | some since => lossExpiry (advanceTo (since + lossTicks s.weigh.sampleRate) s)
  | none => s

/-- A stored sample rate takes effect at once on a running loss timer (R92). -/
def storeSampleRate (rate : Nat) (s : State) : State :=
  let s := { s with weigh.sampleRate := rate }
  match s.weigh.lossTimer with
  | some since => if since + lossTicks rate ≤ s.now then lossExpiry s else s
  | none => s

/-! ## Line reset (R116) -/

/-- The Weighing Engine's share of a line reset: the window and a capture are abandoned, without a reply, test mode goes
OFF, and the zero-tracking block and run are discarded (R116). -/
def weighingLineReset (s : State) : State :=
  let s := dropCapture (engineAbandon s)
  discardTracking { s with weigh.testMode := false }

/-! ## Meanings -/

/-- SAMPLE_FRAME (R89, R90). -/
def execSampleFrame (p : SamplePart) (s : State) : Result := event (sampleFrameEvent p) s

/-- SHORT_FRAME (R89). -/
def execShortFrame (s : State) : Result := event shortFrameEvent s

/-- SAMPLE_LOSS (R91). -/
def execSampleLoss (s : State) : Result := event sampleLossEvent s

end Sys2Proof.Machine
end

