-- ==== Sys2Proof/Machine/Tracking.lean ====
section
/-! DEFINITION. The Tracking Unit (chapter 4): serials, admission, the Distance Table and the effective platform distance,
arrivals, station points, removals with their CAN REPORT (R193), START and STOP. -/

namespace Sys2Proof.Machine

/-! ## Serials and places (R63, R60) -/

/-- Whether a serial is that of a record in the queue. -/
def serialTaken (q : List CanRecord) (n : Serial) : Bool := q.any (fun r => r.serial == n)

/-- The first serial from `n` on that no record has; `fuel` bounds the skips by the queue length (R63). -/
def freeSerial (q : List CanRecord) : Nat → Serial → Serial
  | 0, n => n
  | fuel + 1, n => if serialTaken q n then freeSerial q fuel (n + 1) else n

/-- The serial that the next record takes (R63). -/
def State.serialToGive (s : State) : Serial := freeSerial s.track.queue s.track.queue.length s.track.nextSerial

/-- A record with the serial it took joins the queue, and the serial counter advances past it (R60, R63). -/
def joinQueue (r : CanRecord) (s : State) : State :=
  { s with track.queue := insertByOrigin r s.track.queue, track.nextSerial := r.serial + 1 }

/-! ## Platform distances (R68 to R70) -/

/-- The learned distance, which exists while the list holds 4 or more (R70). -/
def learnedDistance (l : List Nat) : Option Nat :=
  if Config.learnedNeeded ≤ l.length then some (l.foldl (· + ·) 0 / l.length) else none

/-- The list with a distance appended, the oldest of 16 removed first (R69). -/
def learn (d : Nat) (l : List Nat) : List Nat :=
  (if Config.learnedCapacity ≤ l.length then l.drop 1 else l) ++ [d]

/-- Whether a learned distance clears the reader window (R70): Dr + Wr < learned − Wp, on signed numbers. -/
def clearsReader (s : State) (d : Nat) : Bool :=
  match s.dr, s.wr, s.wp with
  | some dr, some wr, some wp => decide ((dr : Int) + wr < d - wp)
  | _, _, _ => false

/-- The effective platform distance (R70); unset while Dp is unset. -/
def State.effectiveDistance (s : State) : Option Nat :=
  match s.dp with
  | none => none
  | some dp =>
    if s.track.override then some dp
    else match learnedDistance s.track.learned with
      | some d => if clearsReader s d then some d else some dp
      | none => some dp

/-- One order condition of R68 on a Distance Table: the entries it names, and whether it holds or is not tested. -/
abbrev OrderCondition := List Nat × Bool

/-- Entry i of a table as a number; 0 where it is unset, and then no condition that names it is tested. -/
def distanceValue (t : List (Option Nat)) (i : Nat) : Int := ((t.getD i none).getD 0 : Nat)

/-- A condition on some entries, tested only when every entry it names is set (R68). -/
def orderCondition (t : List (Option Nat)) (ids : List Nat) (test : Bool) : OrderCondition :=
  (ids, !(ids.all (fun i => (t.getD i none).isSome)) || test)

/-- C1 to C6 of R68. -/
def orderConditions (t : List (Option Nat)) : List OrderCondition :=
  let d := distanceValue t
  [orderCondition t [0, 1] (decide (d 0 < d 1)),
   orderCondition t [1, 2, 3] (decide (d 1 ≤ d 2 - d 3)),
   orderCondition t [2, 3, 4, 5] (decide (d 2 + d 3 < d 4 - d 5)),
   orderCondition t [6, 7] (decide (d 6 < d 7)),
   orderCondition t [7, 8] (decide (d 7 < d 8)),
   orderCondition t [8, 9, 10] (decide (d 8 < d 9 - d 10))]

/-- The table is valid: entries 0 to 10 all set and C1 to C6 all holding (R68). -/
def distancesValid (t : List (Option Nat)) : Bool :=
  (List.range 11).all (fun i => (t.getD i none).isSome) && (orderConditions t).all (fun c => c.2)

/-! ## Discharges (R64 to R66) -/

/-- The record that an admission makes (R64, Table 4-3). -/
def admittedRecord (v : Nat) (s : State) : CanRecord where
  serial := s.serialToGive
  valve := v
  product := s.dose.active
  origin := s.input.count
  eyeDistance := s.effectiveDistance.getD 0
  eligible := eligibleNow s v
  stale := false
  locked := lockedNow s v
  lot := none
  print := .none
  code := none
  arrival := none
  eye := .expected
  weight := none
  verdict := .pending
  reasons := []
  confirm := none
  passed := {}

/-- A discharge with a can present in RUN admits a record or overflows (R64, R66). -/
def admitRecord (v : Nat) (s : State) : State :=
  if s.track.queue.length < Config.trackingCapacity then
    let t := joinQueue (admittedRecord v s) s
    { t with track.counters.admitted := t.track.counters.admitted + 1 }
  else raise .trackOverflow { s with track.counters.overflow := s.track.counters.overflow + 1 }

/-- A discharge as the Tracking Unit takes it (R57, R64). -/
def trackDischarge (v : Nat) (present : Bool) (s : State) : State :=
  match s.track.line with
  | .idle => s
  | .run => if present then admitRecord v s else s

/-! ## The window owner (R75, R82) -/

/-- The owner's open point is taken (R75, R95). -/
def openOwner (o : WindowOwner) (s : State) : State :=
  engineOpen { s with track.owner := some { o with opened := true } }

/-- The owner's close point is taken (R75, R96). -/
def closeOwner (s : State) : State := engineClose { s with track.owner := none }

/-- The owner of serial `n` at count E (R82). RUN has Lin and Lout set. -/
def ownerAt (n : Serial) (e : Count) (s : State) : WindowOwner :=
  ⟨n, ahead e (s.lin.getD 0), ahead e (s.lout.getD 0), false⟩

/-- A record becomes the window owner at an arrival at count E (R82). -/
def becomeOwner (n : Serial) (e : Count) (s : State) : State :=
  let o := ownerAt n e s
  let t := engineArrival n { s with track.owner := some o }
  if reached e o.openPoint then openOwner o t else t

/-- The owner's points at a position event, in the place of record `n` (R75). -/
def ownerPoints (n : Serial) (s : State) : State :=
  let s := match s.track.owner with
    | some o => if o.serial == n && !o.opened && reached s.input.count o.openPoint then openOwner o s else s
    | none => s
  match s.track.owner with
  | some o => if o.serial == n && o.opened && reached s.input.count o.closePoint then closeOwner s else s
  | none => s

/-! ## Arrivals (R78 to R82) -/

/-- Whether an arrival at count E matches a record (R78). -/
def expects (wp : Nat) (e : Count) (r : CanRecord) : Bool :=
  r.eye == .expected
    && windowContains (behind (ahead r.origin r.eyeDistance) wp) (ahead (ahead r.origin r.eyeDistance) wp) e

/-- The oldest record that an arrival at count E matches (R78). -/
def matchingRecord (s : State) (e : Count) : Option CanRecord :=
  match s.wp with
  | some wp => s.track.queue.find? (expects wp e)
  | none => none

/-- A matched arrival (R78). -/
def matchedArrival (r : CanRecord) (e : Count) (s : State) : State :=
  let s := writeRecord r.serial (fun r => { r with eye := .arrived, arrival := some e }) s
  let s := { s with track.learned := learn (e - r.origin).toNat s.track.learned }
  becomeOwner r.serial e (lostRunMatched s)

/-- The record that a stray insertion makes (R80, Table 4-3). -/
def strayRecord (e : Count) (s : State) : CanRecord where
  serial := s.serialToGive
  valve := 0
  product := none
  origin := behind e (s.effectiveDistance.getD 0)
  eyeDistance := s.effectiveDistance.getD 0
  eligible := false
  stale := false
  locked := false
  lot := none
  print := .none
  code := none
  arrival := some e
  eye := .arrived
  weight := none
  verdict := .pending
  reasons := [.stray]
  confirm := none
  passed := { print := true, trigger := true, readerClose := true, eyeClose := true }

/-- A stray insertion (R80). -/
def strayArrival (e : Count) (s : State) : State :=
  let r := strayRecord e s
  let s := joinQueue r s
  let s := raise .strayCan { s with track.counters.strays := s.track.counters.strays + 1 }
  becomeOwner r.serial e s

/-- An untracked stray (R81). -/
def untrackedArrival (s : State) : State :=
  let s := raise .strayCan (postCause .strayNoRoom s)
  let s := { s with track.untracked := s.track.untracked + 1 }
  { engineUntracked s with track.owner := none }

/-- An arrival at count E as the Tracking Unit takes it (R78, R80, R81, R82). -/
def trackArrival (e : Count) (s : State) : State :=
  match s.track.line with
  | .idle => s
  | .run =>
    match matchingRecord s e with
    | some r => matchedArrival r e s
    | none => if s.track.queue.length < Config.trackingCapacity then strayArrival e s else untrackedArrival s

/-! ## CAN REPORTs (R193) -/

/-- The verdict code of a CAN REPORT (Table 10-5). -/
def reportVerdict (lost : Bool) (v : Verdict) : Byte :=
  if lost then 3
  else match v with
    | .accept => 1
    | .reject => 2
    | .pending => 0

/-- The product code of a report: 0xFFFF for a stray (R193). -/
def reportCode (s : State) (r : CanRecord) : Nat :=
  match r.product with
  | some p => (s.product p).code.toNat
  | none => 0xFFFF

/-- The net of a report: 0 when the result is absent or not GOOD (R193). -/
def reportNet (r : CanRecord) : Int :=
  match r.weight with
  | some w => if w.quality == .good then w.net else 0
  | none => 0

/-- The 13 bytes of a CAN REPORT (Table 10-5). -/
def reportPayload (lost : Bool) (s : State) (r : CanRecord) : List Byte :=
  leBytes 2 r.serial.toNat ++ [BitVec.ofNat 8 r.valve] ++ leBytes 2 (reportCode s r) ++ leSigned 4 (reportNet r)
    ++ [codeResultCode r.code ||| (reportVerdict lost r.verdict <<< 4)] ++ leBytes 2 (reasonBits r.reasons)
    ++ [recordFlags r]

/-- Whether the report mode makes a report (R193). -/
def reportMade (m : ReportMode) (lost : Bool) (r : CanRecord) : Bool :=
  match m with
  | .off => false
  | .rejects => lost || r.verdict == .reject
  | .all => true

/-- A removed record is handed to the Management Unit (R193). -/
def canReport (lost : Bool) (r : CanRecord) (s : State) : State :=
  if reportMade s.mgmt.reportMode lost r then
    match appendRoutine (.ready ⟨.managementUnit, 0, kindCanReport, reportPayload lost s r⟩) s with
    | (true, t) => { t with mgmt.counters.reportsQueued := t.mgmt.counters.reportsQueued + 1 }
    | (false, t) => raise .reportDrop { t with mgmt.counters.reportsDropped := t.mgmt.counters.reportsDropped + 1 }
  else s

/-! ## Station points (R71 to R77) -/

/-- A station point of record `n` that is not passed and that the count has reached is marked passed, and acts (R71). -/
def takePoint (n : Serial) (passed : PointsPassed → Bool) (mark : PointsPassed → PointsPassed)
    (position : CanRecord → Option Count) (act : State → State) (s : State) : State :=
  match findRecord n s.track.queue with
  | none => s
  | some r =>
    match position r with
    | none => s
    | some p =>
      if !passed r.passed && reached s.input.count p then
        act (writeRecord n (fun r => { r with passed := mark r.passed }) s)
      else s

/-- A position a distance after a record's origin. -/
def fromOrigin (d : Option Nat) (r : CanRecord) : Option Count := d.map (ahead r.origin)

/-- A position a distance after a record's arrival. -/
def fromArrival (d : Option Nat) (r : CanRecord) : Option Count :=
  match r.arrival, d with
  | some a, some d => some (ahead a d)
  | _, _ => none

/-- The sum of two distances, unset while either is. -/
def addDistances (a b : Option Nat) : Option Nat :=
  match a, b with
  | some a, some b => some (a + b)
  | _, _ => none

/-- The reader window close (R73). -/
def readerClose (n : Serial) (s : State) : State := writeCode n .noread s

/-- A record is lost at its eye window close (R74). -/
def loseRecord (n : Serial) (s : State) : State :=
  match findRecord n s.track.queue with
  | none => s
  | some r =>
    let s := { s with
      track.queue := removeRecord n s.track.queue
      track.counters.lost := s.track.counters.lost + 1 }
    lostRunLoss (canReport true { r with eye := .lost } (raise .lostCan s))

/-- The eye window close (R74). -/
def eyeClose (n : Serial) (s : State) : State :=
  match findRecord n s.track.queue with
  | none => s
  | some r => if r.eye == .expected then loseRecord n s else s

/-- The confirm window close: the record's exit (R77). -/
def exitRecord (n : Serial) (s : State) : State :=
  let s := confirmCheck n s
  match findRecord n s.track.queue with
  | none => s
  | some r =>
    canReport false r
      { s with
        track.queue := removeRecord n s.track.queue
        track.counters.exited := s.track.counters.exited + 1 }

/-- Every point of record `n` that a position event reaches, in the order of Table 4-5 (R71). -/
def recordPoints (s : State) (n : Serial) : State :=
  let s := takePoint n (·.print) (fun p => { p with print := true }) (fromOrigin s.dc) (printPoint n) s
  let s := takePoint n (·.trigger) (fun p => { p with trigger := true }) (fromOrigin s.dt) triggerPoint s
  let s := takePoint n (·.readerClose) (fun p => { p with readerClose := true })
    (fromOrigin (addDistances s.dr s.wr)) (readerClose n) s
  let s := takePoint n (·.eyeClose) (fun p => { p with eyeClose := true })
    (fun r => s.wp.map (fun w => ahead (ahead r.origin r.eyeDistance) w)) (eyeClose n) s
  let s := ownerPoints n s
  let s := takePoint n (·.gate) (fun p => { p with gate := true }) (fromArrival s.dg) (gateDecision n) s
  takePoint n (·.confirmClose) (fun p => { p with confirmClose := true })
    (fromArrival (addDistances s.dk s.wk)) (exitRecord n) s

/-- A position event: station points are tested at forward ones in RUN, oldest record first (R57, R71). -/
def positionEvent (d : Direction) (s : State) : State :=
  match s.track.line, d with
  | .run, .forward => (s.track.queue.map CanRecord.serial).foldl recordPoints s
  | _, _ => s

/-! ## START and STOP (R58, R59) -/

/-- The detail of the first START condition that fails (Table 4-2). -/
def startRefusal (s : State) : Option Byte :=
  if s.dose.active.isNone then some detailNoProduct
  else if !distancesValid s.track.distances then some detailDistances
  else if s.mgmt.filler == 0 || s.mgmt.coder == 0 then some detailStations
  else if s.dose.valveCount == 0 then some detailValveCount
  else if s.weigh.factor == 0 then some detailCalibration
  else none

/-- START as the Tracking Unit answers it, with its detail (R58). -/
def startLine (s : State) : (Status × Byte) × State :=
  match s.track.line with
  | .run => ((.ok, 0), s)
  | .idle =>
    match startRefusal s with
    | some d => ((.notReady, d), s)
    | none => ((.ok, 0), raise .lineRunOn { s with track.line := .run })

/-- STOP in RUN: the window is abandoned, the queue flushed, the line IDLE (R59, R84). -/
def stopLine (s : State) : State :=
  match s.track.line with
  | .idle => s
  | .run =>
    let s := engineAbandon { s with track.owner := none }
    let n := s.track.queue.length
    let s := { s with
      track.queue := []
      track.counters.flushed := s.track.counters.flushed + BitVec.ofNat 32 n
      track.line := .idle }
    raise .lineRunOff s

/-! ## Line reset (R85) -/

/-- The Tracking Unit's share of a line reset (R85). -/
def trackingLineReset (s : State) : State :=
  let s := engineAbandon { s with track.owner := none }
  let wasRun := s.track.line == .run
  let s := { s with track.queue := [], track.counters := {}, track.line := .idle }
  if wasRun then raise .lineRunOff s else s

end Sys2Proof.Machine
end

