-- ==== Sys2Proof/Machine/Input.lean ====
section
/-! DEFINITION. The Input Unit (chapter 3): the stability filters, the encoder count, the valve index, the edges it
delivers to the other blocks, and the meanings of the pins' commands. -/

namespace Sys2Proof.Machine

/-! ## The five discrete inputs -/

/-- The filter of a discrete input. -/
def InputUnit.filterOf (u : InputUnit) : Input → InputFilter
  | .discharge => u.discharge
  | .home => u.home
  | .pocket => u.pocket
  | .platformEye => u.platformEye
  | .confirmEye => u.confirmEye

/-- The unit with the filter of an input replaced. -/
def InputUnit.setFilter (u : InputUnit) (i : Input) (f : InputFilter) : InputUnit :=
  match i with
  | .discharge => { u with discharge := f }
  | .home => { u with home := f }
  | .pocket => { u with pocket := f }
  | .platformEye => { u with platformEye := f }
  | .confirmEye => { u with confirmEye := f }

/-- The glitch counter of an input counts once (R40). -/
def InputCounters.glitch (c : InputCounters) : Input → InputCounters
  | .discharge => { c with glitchDischarge := c.glitchDischarge + 1 }
  | .home => { c with glitchHome := c.glitchHome + 1 }
  | .pocket => { c with glitchPocket := c.glitchPocket + 1 }
  | .platformEye => { c with glitchPlatformEye := c.glitchPlatformEye + 1 }
  | .confirmEye => { c with glitchConfirmEye := c.glitchConfirmEye + 1 }

/-- The filter of an input changed. -/
def modifyFilter (i : Input) (f : InputFilter → InputFilter) (s : State) : State :=
  { s with input := s.input.setFilter i (f (s.input.filterOf i)) }

/-- A filter time in clock units. -/
def filterTicks (us : Nat) : Ticks := us * Config.ticksPerUs

/-! ## The valve index (R47 to R49) -/

/-- The valve that a discharge carries, and the index after it (Table 3-4). -/
def advanceIndex (count : Nat) : ValveIndex → Nat × ValveIndex
  | .unknown => (0, .unknown)
  | .armed => (1, .atValve 1)
  | .atValve v => if v < count then (v + 1, .atValve (v + 1)) else (1, .atValve 1)

/-- An accepted rising edge of HOME (R48). -/
def homeEdge (s : State) : State :=
  let s := { s with input.counters.homeEdges := s.input.counters.homeEdges + 1 }
  if s.dose.valveCount == 0 then s
  else
    let slips := match s.input.index with
      | .atValve v => decide (v < s.dose.valveCount)
      | _ => false
    let s := { s with input.index := .armed }
    if slips then raise .indexSlip { s with input.counters.slips := s.input.counters.slips + 1 } else s

/-! ## Edges delivered to the other blocks (R51 to R53) -/

/-- A discharge (R51). -/
def dischargeEdge (s : State) : State :=
  let (v, index) := advanceIndex s.dose.valveCount s.input.index
  let present := s.input.pocket.accepted
  let s := { s with input.index := index, input.counters.discharges := s.input.counters.discharges + 1 }
  let s := if present then { s with input.counters.cansPresent := s.input.counters.cansPresent + 1 } else s
  lagDecrement v (trackDischarge v present s)

/-- An arrival (R53). -/
def arrivalEdge (s : State) : State :=
  trackArrival s.input.count { s with input.counters.arrivals := s.input.counters.arrivals + 1 }

/-- A confirm event (R53). -/
def confirmEdge (s : State) : State :=
  confirmAt s.input.count { s with input.counters.confirms := s.input.counters.confirms + 1 }

/-- An accepted edge is delivered; falling edges and POCKET changes act on the level only (R40, R48, R51 to R53). -/
def deliverEdge (i : Input) (level : Bool) (s : State) : State :=
  match i, level with
  | .discharge, true => dischargeEdge s
  | .home, true => homeEdge s
  | .platformEye, true => arrivalEdge s
  | .confirmEye, true => confirmEdge s
  | _, _ => s

/-- The filter accepts the pin's level and delivers the edge (R40). -/
def acceptInput (i : Input) (s : State) : State :=
  let level := (s.input.filterOf i).pin
  deliverEdge i level (modifyFilter i (fun f => { f with accepted := level, filter := .stable }) s)

/-- A discrete input's pin takes a level (R40, Table 3-2). A filter time of 0 accepts the change at once. -/
def inputPinEvent (i : Input) (level : Bool) (s : State) : State :=
  let f := s.input.filterOf i
  if f.pin == level then s
  else
    let s := modifyFilter i (fun f => { f with pin := level }) s
    match f.filter with
    | .stable =>
      if f.time == 0 then acceptInput i s
      else modifyFilter i (fun f => { f with filter := .changing s.now }) s
    | .changing _ =>
      modifyFilter i (fun f => { f with filter := .stable })
        { s with input.counters := s.input.counters.glitch i }

/-- The hold timer of an input reaches its filter time on a change to `level` (R40). With no such change in progress the
event cannot come about (log 1). -/
def holdTimerEvent (i : Input) (level : Bool) (s : State) : State :=
  let f := s.input.filterOf i
  match f.filter with
  | .changing since =>
    if f.pin == level then acceptInput i (advanceTo (since + filterTicks f.time) s) else s
  | .stable => s

/-- POCKET's hold timer reaches its filter time, on a change either way (R52). -/
def pocketEvent (s : State) : State := holdTimerEvent .pocket s.input.pocket.pin s

/-- A stored filter time of a discrete input; a change whose elapsed time reaches it is accepted at the write (R41). -/
def storeInputTime (i : Input) (us : Nat) (s : State) : State :=
  let s := modifyFilter i (fun f => { f with time := us }) s
  match (s.input.filterOf i).filter with
  | .changing since => if since + filterTicks us ≤ s.now then acceptInput i s else s
  | .stable => s

/-! ## The encoder (R43 to R45) -/

/-- The place of a pair in the forward turn of Table 3-3. -/
def encoderPhase (p : Bool × Bool) : Nat :=
  match p with
  | (false, false) => 0
  | (true, false) => 1
  | (true, true) => 2
  | (false, true) => 3

/-- What an accepted pair change is (Table 3-3); none is an illegal step. -/
def encoderStepOf (old new : Bool × Bool) : Option Direction :=
  match (encoderPhase new + 4 - encoderPhase old) % 4 with
  | 1 => some .forward
  | 3 => some .reverse
  | _ => none

/-- The pair on the pins is accepted and the count steps (R43, R45); the step it was, none for an illegal one. -/
def countStep (s : State) : Option Direction × State :=
  let step := encoderStepOf s.input.encoder.accepted s.input.encoder.pins
  let s := { s with input.encoder.accepted := s.input.encoder.pins, input.encoder.filter := .stable }
  (step,
    match step with
    | some .forward => { s with input.count := s.input.count + 1, input.direction := .forward }
    | some .reverse => { s with input.count := s.input.count - 1, input.direction := .reverse }
    | none => s)

/-- A step is delivered: its position event (R45), or the error of an illegal step (R44). -/
def deliverStep (step : Option Direction) (s : State) : State :=
  match step with
  | some d => positionEvent d s
  | none => raise .encoderError { s with input.counters.encoderErrors := s.input.counters.encoderErrors + 1 }

/-- The pair on the pins is accepted, and the step judged (R43, R44, R45). -/
def acceptPair (s : State) : State :=
  let r := countStep s
  deliverStep r.1 r.2

/-- The encoder pins take the pair (a, b) (R43). -/
def encoderPinEvent (a b : Bool) (s : State) : State :=
  let e := s.input.encoder
  if e.pins == (a, b) then s
  else
    let s := { s with input.encoder.pins := (a, b) }
    if e.accepted == (a, b) then
      { s with
        input.encoder.filter := .stable
        input.counters.glitchEncoder := s.input.counters.glitchEncoder + 1 }
    else if e.time == 0 then acceptPair s
    else { s with input.encoder.filter := .changing s.now }

/-- The encoder pins have held one pair for the filter time (R43). -/
def encoderStepEvent (s : State) : State :=
  match s.input.encoder.filter with
  | .changing since => acceptPair (advanceTo (since + filterTicks s.input.encoder.time) s)
  | .stable => s

/-- An arrival accepted together with an encoder step, the step's count taken first (R46) and the arrival before the step's
position event (R79, log 21). Without a change in progress at both filters it cannot come about (log 1). -/
def arrivalWithStep (s : State) : State :=
  match s.input.platformEye.filter, s.input.encoder.filter with
  | .changing eye, .changing pair =>
    if s.input.platformEye.pin then
      let s := advanceTo (eye + filterTicks s.input.platformEye.time)
        (advanceTo (pair + filterTicks s.input.encoder.time) s)
      let r := countStep s
      deliverStep r.1 (acceptInput .platformEye r.2)
    else s
  | _, _ => s

/-- ARRIVAL: PLATFORM EYE has held high for its filter time, alone or together with an encoder step (R53, R79). -/
def arrivalEvent (withStep : Bool) (s : State) : State :=
  if withStep then arrivalWithStep s else holdTimerEvent .platformEye true s

/-- A stored encoder filter time (R43, R41). -/
def storeEncoderTime (us : Nat) (s : State) : State :=
  let s := { s with input.encoder.time := us }
  match s.input.encoder.filter with
  | .changing since => if since + filterTicks us ≤ s.now then acceptPair s else s
  | .stable => s

/-- A stored filter time of SETTINGS entries 3 to 8. -/
def storeFilterTime (w : FilterInput) (us : Nat) (s : State) : State :=
  match w with
  | .discrete i => storeInputTime i us s
  | .encoder => storeEncoderTime us s

/-! ## Line reset (R42, R49) -/

/-- The Input Unit's share of a line reset: the index only (R42, R49). -/
def inputLineReset (s : State) : State := { s with input.index := .unknown }

/-! ## Meanings -/

/-- INPUT_PIN_CHANGE (R40). -/
def execInputPinChange (i : Input) (level : Bool) (s : State) : Result := event (inputPinEvent i level) s

/-- DISCHARGE (R51). -/
def execDischarge (s : State) : Result := event (holdTimerEvent .discharge true) s

/-- HOME_EDGE (R48). -/
def execHomeEdge (s : State) : Result := event (holdTimerEvent .home true) s

/-- POCKET_CHANGE (R52). -/
def execPocketChange (s : State) : Result := event pocketEvent s

/-- ARRIVAL (R53). -/
def execArrival (s : State) (withStep : Bool := false) : Result := event (arrivalEvent withStep) s

/-- CONFIRM_EVENT (R175). -/
def execConfirmEvent (s : State) : Result := event (holdTimerEvent .confirmEye true) s

/-- ENCODER_PIN_CHANGE (R43). -/
def execEncoderPinChange (a b : Bool) (s : State) : Result := event (encoderPinEvent a b) s

/-- ENCODER_STEP (R43). -/
def execEncoderStep (s : State) : Result := event encoderStepEvent s

/-- ACCEPTED_FALLING_EDGE (R40). -/
def execAcceptedFallingEdge (i : Input) (s : State) : Result := event (holdTimerEvent i false) s

end Sys2Proof.Machine
end

