-- ==== Sys2Proof/Machine/LineReset.lean ====
section
/-! DEFINITION. The line reset of the whole part (R6, R24, R42, R49, R85, R116, R137, R169, R180, R189, R192): every
block's share, in one event. -/

namespace Sys2Proof.Machine

/-- The Ring Port's share: the partial frame is abandoned without a count and the three queues are emptied (R24). -/
def ringLineReset (s : State) : State :=
  { s with ring.assembler := .waitMark, ring.forward := [], ring.urgent := [], ring.routine := [] }

/-- After the emptying, a NOTICE is appended if one waited or was pending, and the flag is cleared (R192). -/
def noticeAfterReset (due : Bool) (s : State) : State :=
  if due then { (queueNotice s).2 with mgmt.noticePending := false, mgmt.noticeRetryDue := false } else s

/-- A line reset (log 15 gives the order of the shares). `reply` is the REPLY of the LINE RESET action, appended right
after the emptying (R189, R192); at a long break there is none. -/
def lineReset (reply : State → State) (s : State) : State :=
  let due := noticeWaits s || s.mgmt.noticePending
  let s := noticeAfterReset due (reply (ringLineReset s))
  inputLineReset (codeLineReset (verdictLineReset (doseLineReset (weighingLineReset (trackingLineReset s)))))

end Sys2Proof.Machine
end

