-- ==== Sys2Proof/Machine/Tables.lean ====
section
/-! DEFINITION. What a TABLE READ returns (chapter 9, Tables 9-4, 9-5 and 9-7; chapter 10, section 10.3): the shape of
every table and the bytes of every read entry. -/

namespace Sys2Proof.Machine

/-! ## The tables (Table 9-4) -/

/-- The shape of a table: its first and last index, and the sizes of its read and write entries. -/
structure TableShape where
  first : Nat
  last : Nat
  readSize : Nat
  writeSize : Nat
  deriving DecidableEq, Repr

/-- Table 9-4; none for an id outside 1 to 10. COUNTERS and QUEUE have no write entry. -/
def tableShape (id : Nat) : Option TableShape :=
  match id with
  | 1 => some ⟨0, 1, 1, 1⟩
  | 2 => some ⟨0, 23, 8, 8⟩
  | 3 => some ⟨0, 11, 12, 4⟩
  | 4 => some ⟨0, 15, 4, 4⟩
  | 5 => some ⟨0, 15, 34, 34⟩
  | 6 => some ⟨1, 48, 40, 1⟩
  | 7 => some ⟨0, 14, 4, 4⟩
  | 8 => some ⟨0, 150, 4, 0⟩
  | 9 => some ⟨0, 127, 40, 0⟩
  | 10 => some ⟨0, 17, 2, 1⟩
  | _ => none

/-- The first index of a run that lies outside a table, if one does (R185, R186). -/
def TableShape.outside (t : TableShape) (first count : Nat) : Option Nat :=
  if first < t.first || t.last < first then some first
  else if t.last < first + count - 1 then some (t.last + 1)
  else none

/-! ## STATIONS and SETTINGS -/

/-- A read entry of STATIONS (Table 10-10). -/
def stationsEntry (s : State) (i : Nat) : List Byte :=
  [if i == 0 then s.mgmt.filler else s.mgmt.coder]

/-- Table 10-10, report mode. -/
def reportModeCode : ReportMode → Nat
  | .off => 0
  | .rejects => 1
  | .all => 2

/-- The value of a SETTINGS entry other than the lot string (Table 9-5). -/
def settingValue (s : State) (i : Nat) : Int :=
  match i with
  | 0 => s.mgmt.ownStation.toNat
  | 1 => s.ring.rate.mbits
  | 2 => s.dose.valveCount
  | 3 => s.input.discharge.time
  | 4 => s.input.home.time
  | 5 => s.input.pocket.time
  | 6 => s.input.platformEye.time
  | 7 => s.input.confirmEye.time
  | 8 => s.input.encoder.time
  | 9 => s.weigh.sampleRate
  | 10 => s.weigh.blockSize
  | 11 => s.weigh.settleBand
  | 12 => s.weigh.zeroTracking.toNat
  | 13 => s.weigh.zeroBand
  | 14 => s.weigh.factor
  | 15 => s.weigh.zero
  | 17 => s.code.rate
  | 18 => match s.code.format with
    | .eightN1 => 0
    | .sevenE1 => 1
  | 19 => s.code.enable.toNat
  | 20 => s.dose.ackTimeout
  | 21 => s.verdict.pulseTime
  | 22 => s.verdict.lostRunLimit
  | 23 => reportModeCode s.mgmt.reportMode
  | _ => 0

/-- A read entry of SETTINGS (Table 10-10): sign-extended over eight bytes; the lot string as its six characters. -/
def settingsEntry (s : State) (i : Nat) : List Byte :=
  if i == 16 then s.code.lot ++ [0, 0] else leSigned 8 (settingValue s i)

/-! ## DISTANCES and PASS RULES -/

/-- The marker for unset and for none (section 10.3). -/
def distanceMarker : Nat := 0xFFFFFFFF

/-- A distance, or the marker. -/
def distanceBytes (d : Option Nat) : List Byte := leBytes 4 (d.getD distanceMarker)

/-- A read entry of DISTANCES (Table 10-10, R70). -/
def distancesEntry (s : State) (i : Nat) : List Byte :=
  let value := if i == 11 then some s.track.override.toNat else s.distance i
  let learned := if i == 4 then learnedDistance s.track.learned else none
  let effective := if i == 4 then s.effectiveDistance else none
  distanceBytes value ++ distanceBytes learned ++ distanceBytes effective

/-- Table 10-10, action of a pass rule. -/
def passActionCode : PassAction → Byte
  | .pass => 0
  | .drop => 1
  | .snoop => 2
  | .trim => 3

/-- A read entry of PASS RULES (Table 10-10); an empty position sends 0 in its other fields. -/
def passRuleEntry (s : State) (i : Nat) : List Byte :=
  match s.pass.rules.getD i none with
  | none => [0, 0, 0, 0x80]
  | some r =>
    [r.dest.getD 0xFF, r.source.getD 0xFF, r.kind.getD 0,
      passActionCode r.action ||| (if r.kind.isNone then 0x10 else 0)]

/-! ## PRODUCTS and VALVES -/

/-- A read entry of PRODUCTS (Table 10-8). The bits that the table names as 0 are sent as 0 (R195). -/
def productEntry (p : Product) : List Byte :=
  leBytes 2 p.code.toNat ++ leBytes 4 p.target.toNat ++ leBytes 4 p.lower.toNat ++ leBytes 4 p.upper.toNat
    ++ leBytes 4 p.tare.toNat ++ leBytes 2 p.gain.toNat ++ leBytes 2 p.nominal.toNat ++ [p.window]
    ++ leBytes 4 p.deadband.toNat ++ leBytes 2 p.trimLimit.toNat ++ leBytes 2 p.maxStep.toNat
    ++ [p.shape &&& 0x73, p.lockout, p.mask &&& 0x3F]

/-- Table 10-9, state. -/
def valveStateCode : ValveState → Byte
  | .disabled => 0
  | .regulating => 1
  | .hold => 2
  | .awaitAck => 3
  | .locking => 4
  | .lockedOut => 5
  | .releasing => 6
  | .fault => 7

/-- Table 10-9, exchange op. -/
def exchangeCode : Option (ExchangeOp × Byte) → Byte
  | none => 0
  | some (.dose, _) => 1
  | some (.off, _) => 2
  | some (.on, _) => 3

/-- Milliseconds left to an expiry, rounded up; 0 while stopped (R195). -/
def millisecondsLeft (now : Ticks) : Option Ticks → Nat
  | none => 0
  | some due => (due - now + (Config.ticksPerMs - 1)) / Config.ticksPerMs

/-- A read entry of VALVES (Table 10-9). -/
def valveEntry (now : Ticks) (x : Valve) : List Byte :=
  [valveStateCode x.state] ++ leBytes 2 x.base ++ leSigned 2 x.trim ++ leSigned 2 (x.pendingTrim.getD 0)
    ++ [flagBit 0 x.pendingTrim.isSome ||| (exchangeCode x.exchange <<< 1) ||| flagBit 3 x.abandonedTag.isSome,
        x.generation, (x.exchange.map Prod.snd).getD 0, x.abandonedTag.getD 0,
        BitVec.ofNat 8 x.lag, BitVec.ofNat 8 x.limitCount, BitVec.ofNat 8 x.window.length]
    ++ leSigned 4 (x.window.foldl (· + ·) 0) ++ leBytes 2 (millisecondsLeft now x.timer)
    ++ leBytes 4 x.counters.handOffs.toNat ++ leBytes 4 x.counters.entered.toNat
    ++ leBytes 4 x.counters.exchanges.toNat ++ leBytes 4 x.counters.timeouts.toNat
    ++ leBytes 4 x.counters.refusals.toNat

/-! ## TEST WEIGHTS -/

/-- The value of a TEST WEIGHTS entry (section 9.3). -/
def testWeightsValue (t : TestState) (i : Nat) : Int :=
  if i < 8 then t.weights.getD i 0
  else if i == 8 then t.count
  else if i == 9 then (match t.mode with | .fixed => 0 | .step => 1)
  else if i < 14 then t.ripple.getD (i - 10) 0
  else t.pointer

/-! ## COUNTERS (Tables 9-7 and 10-11) -/

/-- Table 1-6. -/
def ringCounterList (c : RingCounters) : List Counter :=
  [c.goodFrames, c.noisyFrames, c.overrun, c.framing, c.truncated, c.length, c.check, c.strays, c.resyncs, c.longBreaks,
   c.relays, c.forwarded, c.own]

/-- Table 2-2. -/
def passCounterList (c : PassCounters) : List Counter :=
  [c.addressed, c.orphans, c.unknownKind, c.drops, c.snoops, c.ignoredSnoops, c.rewrites, c.malformed]

/-- Table 3-5. -/
def inputCounterList (c : InputCounters) : List Counter :=
  [c.glitchDischarge, c.glitchHome, c.glitchPocket, c.glitchPlatformEye, c.glitchConfirmEye, c.glitchEncoder,
   c.encoderErrors, c.discharges, c.cansPresent, c.homeEdges, c.slips, c.arrivals, c.confirms]

/-- Table 4-7. -/
def canCounterList (c : CanCounters) : List Counter :=
  [c.admitted, c.strays, c.exited, c.lost, c.flushed, c.overflow]

/-- Table 5-8. -/
def weighingCounterList (c : WeighingCounters) : List Counter :=
  [c.frames, c.faulted, c.short, c.losses, c.good, c.unsettled, c.overlap, c.sampleFault, c.test, c.clamps,
   c.abandonedWindows, c.captures, c.capturesAbandoned, c.adjustments, c.drifts]

/-- Table 6-7. -/
def codeCounterList (c : CodeCounters) : List Counter :=
  [c.printsRequested, c.printsSkipped, c.triggersSent, c.triggersDropped, c.noisy, c.outside, c.reads, c.idleReads,
   c.badOverrun, c.badFraming, c.badParity, c.badLength, c.badClass, c.badCheck, c.noReads, c.abandoned, c.matched,
   c.contentMismatches, c.tagMismatches, c.orphans]

/-- Table 7-7. -/
def doseCounterList (c : DoseCounters) : List Counter :=
  [c.productChanges, c.unknownProducts, c.withdrawn, c.doseChanges, c.baseChanges, c.evaluations, c.deadband,
   c.noChange, c.notStarted, c.deferred, c.lockouts, c.releases, c.staleAcks, c.lateAcks, c.unknownAcks]

/-- Table 8-4, the reasons in the order of Table 8-2 and the causes in the order of R177. -/
def verdictCounterList (c : VerdictCounters) : List Counter :=
  [c.gateDecisions, c.accepts, c.rejects] ++ (List.range 12).map (fun i => c.reasons.getD i 0)
    ++ [c.pulsesStarted, c.pulseRestarts, c.confirmAssigned, c.confirmUnassigned, c.confirmIdle, c.confirmedAccepts,
        c.missing, c.confirmedRejects, c.escapes, c.postEscape, c.postStrayNoRoom, c.postLostRun, c.postRequested,
        c.stopClears]

/-- Table 9-8. -/
def managementCounterList (c : ManagementCounters) : List Counter :=
  [c.requests, c.refusedSources, c.unknownKinds, c.repliesQueued, c.repliesDropped, c.noticesQueued, c.noticeDeferrals,
   c.reportsQueued, c.reportsDropped]

/-- Table 10-11, index 62. -/
def engineStatusWord (s : State) : Counter :=
  let st := match engineState s with
    | .empty => 0
    | .capture => 1
    | .loaded => 2
  word32 (st + 256 * s.weigh.sampleLoss.toNat + 65536 * s.weigh.testMode.toNat)

/-- Table 10-11, index 91. -/
def readFaultCode : ReadFault → Nat
  | .overrun => 1
  | .framing => 2
  | .parity => 3
  | .length => 4
  | .charClass => 5
  | .check => 6

/-- Table 10-11, index 84. -/
def readKindCode : ReadOutcome → Nat
  | .noRead => 2
  | .wellFormed | .badcode _ => 1

/-- Table 10-11, index 90. -/
def readOutcomeCode : ReadOutcome → Nat
  | .wellFormed => 0
  | .badcode _ => 1
  | .noRead => 2

/-- Table 10-11, indices 84 to 94. With no last read the assigned serial shows its marker and the rest 0 (log 23). -/
def lastReadList : Option LastRead → List Counter
  | none => [0, 0, 0, 0, 0, 0, 0, 0, 0, 0xFFFFFFFF, 0]
  | some r =>
    let text (k : Nat) : Counter := word32 (leNat ((List.range 4).map (fun i => byteAt r.text (4 * k + i))))
    [word32 (readKindCode r.outcome), text 0, text 1, text 2, text 3, word32 r.delivered,
     word32 (readOutcomeCode r.outcome),
     (match r.outcome with | .badcode f => word32 (readFaultCode f) | _ => 0), r.count,
     (match r.serial with | some n => n.setWidth 32 | none => 0xFFFFFFFF), (codeResultCode r.result).setWidth 32]

/-- Table 10-11, index 110. -/
def activeProductWord (s : State) : Counter :=
  match s.dose.active with
  | some p => word32 p
  | none => 0xFFFFFFFF

/-- Table 10-11, index 35. -/
def directionWord : Direction → Counter
  | .forward => 0
  | .reverse => 1

/-- The 151 entries of COUNTERS (Table 9-7). -/
def counterList (s : State) : List Counter :=
  ringCounterList s.ring.counters ++ passCounterList s.pass.counters ++ inputCounterList s.input.counters
    ++ [s.input.count, directionWord s.input.direction] ++ canCounterList s.track.counters
    ++ [word32 s.track.queue.length, s.track.untracked, s.track.nextSerial.setWidth 32,
        (lineStateByte s.track.line).setWidth 32]
    ++ weighingCounterList s.weigh.counters ++ [0, engineStatusWord s] ++ codeCounterList s.code.counters ++ [0]
    ++ lastReadList s.code.lastRead ++ doseCounterList s.dose.counters ++ [activeProductWord s]
    ++ verdictCounterList s.verdict.counters ++ [word32 s.verdict.stopLatch.bits, word32 s.verdict.lostRun]
    ++ managementCounterList s.mgmt.counters

/-! ## QUEUE (Table 10-12) and EVENTS -/

/-- Table 10-12, verdict. -/
def verdictCode : Verdict → Byte
  | .pending => 0
  | .accept => 1
  | .reject => 2

/-- Table 10-12, eye state. LOST is never seen in the queue (R74). -/
def eyeCode : EyeState → Byte
  | .expected => 0
  | .arrived | .lost => 1

/-- Table 10-12, offset 37. -/
def pointsByte (p : PointsPassed) : Byte :=
  flagBit 0 p.print ||| flagBit 1 p.trigger ||| flagBit 2 p.readerClose ||| flagBit 3 p.eyeClose ||| flagBit 4 p.gate
    ||| flagBit 5 p.confirmClose

/-- The first 38 bytes of a QUEUE record view (Table 10-12). -/
def recordView (r : CanRecord) : List Byte :=
  leBytes 2 r.serial.toNat
    ++ [BitVec.ofNat 8 r.valve, (match r.product with | some p => BitVec.ofNat 8 p | none => 0xFF)]
    ++ leBytes 4 r.origin.toNat ++ leBytes 4 r.eyeDistance ++ leBytes 4 ((r.arrival.map BitVec.toNat).getD 0)
    ++ leSigned 4 ((r.weight.map WeightResult.net).getD 0) ++ leBytes 2 ((r.weight.map WeightResult.samples).getD 0)
    ++ [qualityCode r.weight ||| flagBit 3 ((r.weight.map WeightResult.test).getD false)]
    ++ r.lot.getD (List.replicate 6 0) ++ [codeResultCode r.code] ++ leBytes 2 (reasonBits r.reasons)
    ++ [verdictCode r.verdict, eyeCode r.eye, confirmCode r.confirm, printStateCode r.print,
        flagBit 0 r.eligible ||| flagBit 1 r.stale ||| flagBit 2 r.locked ||| flagBit 3 r.arrival.isSome
          ||| flagBit 4 r.lot.isSome,
        pointsByte r.passed]

/-- A read entry of QUEUE (Table 10-12). -/
def queueEntry (s : State) (i : Nat) : List Byte :=
  let view := match s.track.queue[i]? with
    | some r => recordView r
    | none => [0xFF, 0xFF] ++ List.replicate 36 0
  view ++ [BitVec.ofNat 8 i, BitVec.ofNat 8 s.track.queue.length]

/-- A read entry of EVENTS (Table 10-10). -/
def eventsEntry (s : State) (i : Nat) : List Byte :=
  [boolByte (s.mgmt.latches.getLsbD i), boolByte (s.mgmt.masks.getLsbD i)]

/-! ## TABLE READ (R185) -/

/-- The read entry of index i of a table. -/
def readEntry (s : State) (id i : Nat) : List Byte :=
  match id with
  | 1 => stationsEntry s i
  | 2 => settingsEntry s i
  | 3 => distancesEntry s i
  | 4 => passRuleEntry s i
  | 5 => productEntry (s.product i)
  | 6 => valveEntry s.now (s.valve i)
  | 7 => leSigned 4 (testWeightsValue s.weigh.test i)
  | 8 => leBytes 4 ((counterList s).getD i 0).toNat
  | 9 => queueEntry s i
  | 10 => eventsEntry s i
  | _ => []

/-- The entries of a run of indices. -/
def readEntries (s : State) (id first count : Nat) : List Byte :=
  (List.range count).flatMap (fun k => readEntry s id (first + k))

/-- A TABLE READ of three bytes (R185, tests 2 to 4). -/
def readTable (s : State) (id first count : Byte) : Answer :=
  let echo := [id, first, count]
  match tableShape id.toNat with
  | none => ⟨.badTable, 0, echo⟩
  | some t =>
    if count == 0 || Config.readBytes < count.toNat * t.readSize then ⟨.badLength, 0, echo⟩
    else match t.outside first.toNat count.toNat with
      | some i => ⟨.badIndex, BitVec.ofNat 8 i, echo⟩
      | none => ⟨.ok, 0, echo ++ readEntries s id.toNat first.toNat count.toNat⟩

/-- A TABLE READ by its payload (R185). A payload too short for the fields that its reply echoes is echoed as zeros, all
of them (log 14). -/
def tableReadAnswer (s : State) (data : List Byte) : Answer :=
  match data with
  | [id, first, count] => readTable s id first count
  | id :: first :: count :: _ => ⟨.badLength, 0, [id, first, count]⟩
  | _ => ⟨.badLength, 0, [0, 0, 0]⟩

end Sys2Proof.Machine
end

