-- ==== Sys2Proof/Machine/Management.lean ====
section
/-! DEFINITION. The Management Unit (chapter 9): requests and their REPLY, table writes with the tests of every owner,
actions, and the meanings of the request commands. -/

namespace Sys2Proof.Machine

/-! ## Requests (R183) -/

/-- A REPLY to the supervisor. -/
def reply (kind : Byte) (a : Answer) (s : State) : State := appendReply 0 kind a s

/-- A request of a management kind is taken (R183): from source 0 it is performed, from another it is refused. In
repeater-only mode none reaches the unit (R28, log 8). -/
def takeRequest (src kind : Byte) (perform : State → State) (s : State) : State :=
  if repeaterOnly s then s
  else
    let s := { s with mgmt.counters.requests := s.mgmt.counters.requests + 1 }
    if src == 0 then perform s
    else
      let s := { s with mgmt.counters.refusedSources := s.mgmt.counters.refusedSources + 1 }
      if src.toNat < 63 then appendReply src kind ⟨.refusedSource, 0, []⟩ s else s

/-- A request of an unknown kind from source 0 (R183). -/
def unknownKindEvent (kind : Byte) (s : State) : State :=
  if repeaterOnly s then s
  else
    let s := { s with
      mgmt.counters.requests := s.mgmt.counters.requests + 1
      mgmt.counters.unknownKinds := s.mgmt.counters.unknownKinds + 1 }
    reply kind ⟨.unknownKind, 0, []⟩ s

/-- IDENTIFY (R182, R196): "TW48" and the revision; a payload is refused BAD_LENGTH with no data. -/
def performIdentify (data : List Byte) (s : State) : State :=
  if data.isEmpty then reply kindIdentify ⟨.ok, 0, [0x54, 0x57, 0x34, 0x38, Config.revision]⟩ s
  else reply kindIdentify ⟨.badLength, 0, []⟩ s

/-- TABLE READ (R185): a read changes nothing but the queue of its REPLY. -/
def performTableRead (data : List Byte) (s : State) : State := reply kindTableRead (tableReadAnswer s data) s

/-! ## Table writes (R186) -/

/-- A written entry: its index and its bytes. -/
abbrev Entry := Nat × List Byte

/-- A refusal: its status and its detail. -/
abbrev Refused := Status × Byte

/-- The refusal of an entry of index i. -/
def refuseAt (st : Status) (i : Nat) : Option Refused := some (st, BitVec.ofNat 8 i)

/-- The entries that a write carries. -/
def entriesOf (size first count : Nat) (data : List Byte) : List Entry :=
  (List.range count).map (fun k => (first + k, slice data (k * size) size))

/-- The lowest written index. -/
def lowestIndex (es : List Entry) : Nat := (es.map Prod.fst).headD 0

/-- The first refusal of entries tested in index order. -/
def firstRefusal (test : Entry → Option Status) (es : List Entry) : Option Refused :=
  es.findSome? (fun e => (test e).map (fun st => (st, BitVec.ofNat 8 e.1)))

/-- Entries stored in index order. -/
def storeEach (store : Entry → State → State) (es : List Entry) (s : State) : State :=
  es.foldl (fun s e => store e s) s

/-- A TABLE WRITE whose table is known (R186, tests 3 to 5), stored whole or not at all. -/
def writeTable (id : Nat) (refuse : List Entry → State → Option Refused) (store : List Entry → State → State)
    (first count : Byte) (data : List Byte) (s : State) : State :=
  let answer (st : Status) (detail : Byte) : State → State :=
    reply kindTableWrite ⟨st, detail, [BitVec.ofNat 8 id, first, count]⟩
  match tableShape id with
  | none => answer .badTable 0 s
  | some t =>
    if count == 0 || data.length ≠ count.toNat * t.writeSize then answer .badLength 0 s
    else match t.outside first.toNat count.toNat with
      | some i => answer .badIndex (BitVec.ofNat 8 i) s
      | none =>
        let es := entriesOf t.writeSize first.toNat count.toNat data
        match refuse es s with
        | some r => answer r.1 r.2 s
        | none => answer .ok 0 (store es s)

/-! ### STATIONS (R187) -/

/-- The Station Table as a write would leave it. -/
def stationsAfter (es : List Entry) (s : State) : Byte × Byte :=
  es.foldl (fun t e => if e.1 == 0 then (byteAt e.2 0, t.2) else (t.1, byteAt e.2 0)) (s.mgmt.filler, s.mgmt.coder)

/-- R187. -/
def refuseStations (es : List Entry) (s : State) : Option Refused :=
  match s.track.line with
  | .run => refuseAt .inUse (lowestIndex es)
  | .idle =>
    let test (e : Entry) : Option Status :=
      if 63 ≤ (byteAt e.2 0).toNat || byteAt e.2 0 == s.mgmt.ownStation then some .badValue else none
    match firstRefusal test es with
    | some r => some r
    | none =>
      let t := stationsAfter es s
      if t.1 == t.2 && t.1 != 0 then refuseAt .badValue (lowestIndex es) else none

/-- A stored Station Table (R187). -/
def storeStations (es : List Entry) (s : State) : State :=
  let t := stationsAfter es s
  { s with mgmt.filler := t.1, mgmt.coder := t.2 }

/-- TABLE WRITE to STATIONS. -/
def writeStations : Byte → Byte → List Byte → State → State := writeTable 1 refuseStations storeStations

/-! ### DISTANCES (R68) -/

/-- Whether a value lies in the range of its entry (Table 4-4); the unset marker lies in none. -/
def distanceInRange (i v : Nat) : Bool :=
  if i == 3 || i == 5 || i == 10 then decide (1 ≤ v) && decide (v ≤ 65535)
  else if i == 11 then decide (v ≤ 1)
  else decide (v ≤ 16777215)

/-- Entries 0 to 10 as a write would leave them. -/
def distancesAfter (es : List Entry) (t : List (Option Nat)) : List (Option Nat) :=
  es.foldl (fun t e => if e.1 == 11 then t else t.set e.1 (some (leNat e.2))) t

/-- The lowest written entry that appears in a failing order condition, if one fails (R68). -/
def failingEntry (es : List Entry) (t : List (Option Nat)) : Option Nat :=
  let bad := (orderConditions t).filter (fun c => !c.2)
  if bad.isEmpty then none
  else some (((es.map Prod.fst).find? (fun i => bad.any (fun c => c.1.contains i))).getD (lowestIndex es))

/-- R68. -/
def refuseDistances (es : List Entry) (s : State) : Option Refused :=
  match s.track.line with
  | .run => refuseAt .inUse (lowestIndex es)
  | .idle =>
    match firstRefusal (fun e => if distanceInRange e.1 (leNat e.2) then none else some .badValue) es with
    | some r => some r
    | none => (failingEntry es (distancesAfter es s.track.distances)).bind (refuseAt .badValue)

/-- A stored Distance Table; one that includes Dp empties the learned-distance list (R68, R69). -/
def storeDistances (es : List Entry) (s : State) : State :=
  { s with
    track.distances := distancesAfter es s.track.distances
    track.override := es.foldl (fun o e => if e.1 == 11 then leNat e.2 == 1 else o) s.track.override
    track.learned := if es.any (fun e => e.1 == 4) then [] else s.track.learned }

/-- TABLE WRITE to DISTANCES. -/
def writeDistances : Byte → Byte → List Byte → State → State := writeTable 3 refuseDistances storeDistances

/-! ### PASS RULES (R31, R196) -/

/-- A station field of a rule: a station 0 to 63, or ANY; none where it is neither. -/
def ruleStation (b : Byte) : Option (Option Byte) :=
  if b == 0xFF then some none else if b.toNat ≤ 63 then some (some b) else none

/-- The action of a rule; none for 4 to 7. -/
def ruleAction (b : Byte) : Option PassAction :=
  match b.toNat % 8 with
  | 0 => some .pass
  | 1 => some .drop
  | 2 => some .snoop
  | 3 => some .trim
  | _ => none

/-- The rule that four bytes hold: none where they name no value, some none where they are marked empty (Table 10-10,
R196). -/
def decodeRule (b : List Byte) : Option (Option PassRule) :=
  let b3 := byteAt b 3
  if b3.getLsbD 7 then some none
  else if b3 &&& 0x68 != 0 then none
  else match ruleStation (byteAt b 0), ruleStation (byteAt b 1), ruleAction b3 with
    | some d, some src, some a => some (some ⟨d, src, if b3.getLsbD 4 then none else some (byteAt b 2), a⟩)
    | _, _, _ => none

/-- R31. -/
def refuseRules (es : List Entry) (_ : State) : Option Refused :=
  firstRefusal (fun e => if (decodeRule e.2).isSome then none else some .badValue) es

/-- A stored Pass Rule List (R33). -/
def storeRules (es : List Entry) (s : State) : State :=
  storeEach (fun e s => { s with pass.rules := s.pass.rules.set e.1 ((decodeRule e.2).getD none) }) es s

/-- TABLE WRITE to PASS RULES. -/
def writeRules : Byte → Byte → List Byte → State → State := writeTable 4 refuseRules storeRules

/-! ### PRODUCTS (R142, R143, R196) -/

/-- The product entry that 34 bytes hold (Table 10-8). -/
def decodeProduct (b : List Byte) : Product where
  code := BitVec.ofNat 16 (leNat (slice b 0 2))
  target := BitVec.ofNat 32 (leNat (slice b 2 4))
  lower := BitVec.ofNat 32 (leNat (slice b 6 4))
  upper := BitVec.ofNat 32 (leNat (slice b 10 4))
  tare := BitVec.ofNat 32 (leNat (slice b 14 4))
  gain := BitVec.ofNat 16 (leNat (slice b 18 2))
  nominal := BitVec.ofNat 16 (leNat (slice b 20 2))
  window := byteAt b 22
  deadband := BitVec.ofNat 32 (leNat (slice b 23 4))
  trimLimit := BitVec.ofNat 16 (leNat (slice b 27 2))
  maxStep := BitVec.ofNat 16 (leNat (slice b 29 2))
  shape := byteAt b 31
  lockout := byteAt b 32
  mask := byteAt b 33

/-- A number of cg that a net can take (Table 7-2). -/
def netInRange (x : Int) : Bool := decide (Config.netLeast ≤ x) && decide (x ≤ Config.netMost)

/-- Every field of a non-empty entry lies in its range, and its limits and target agree (R142, test 2; R196). -/
def Product.valuesHold (p : Product) : Bool :=
  decide (p.code.toNat ≤ 9999) && netInRange p.target.toInt && netInRange p.lower.toInt && netInRange p.upper.toInt
    && decide (p.tare.toNat ≤ 999999) && decide (1 ≤ p.gain.toNat) && decide (p.gain.toNat ≤ 10000)
    && decide (4 ≤ p.window.toNat) && decide (p.window.toNat ≤ 32) && decide (p.deadband.toNat ≤ 100000)
    && decide (p.trimLimit.toNat ≤ 32767) && decide (1 ≤ p.maxStep.toNat) && decide (p.maxStep.toNat ≤ 32767)
    && (p.shape &&& 0x8C == 0) && (p.mask &&& 0xC0 == 0)
    && decide (p.lower.toInt < p.upper.toInt) && decide (p.lower.toInt ≤ p.target.toInt)
    && decide (p.target.toInt ≤ p.upper.toInt)

/-- An entry is in use (R143). -/
def productInUse (s : State) (i : Nat) : Bool :=
  s.dose.active == some i || s.track.queue.any (fun r => r.product == some i)

/-- The Product Table as a write would leave it. -/
def productsAfter (es : List Entry) (t : List Product) : List Product :=
  es.foldl (fun t e => t.set e.1 (decodeProduct e.2)) t

/-- Whether entry i of a table shares its code with another non-empty entry (R142, test 3). -/
def sharesCode (t : List Product) (i : Nat) : Bool :=
  let p := t.getD i Product.empty
  !p.isEmpty && (List.range t.length).any (fun j => j != i && (t.getD j Product.empty).code == p.code)

/-- R142. -/
def refuseProducts (es : List Entry) (s : State) : Option Refused :=
  match firstRefusal (fun e => if productInUse s e.1 then some .inUse else none) es with
  | some r => some r
  | none =>
    let valueTest (e : Entry) : Option Status :=
      let p := decodeProduct e.2
      if p.isEmpty || p.valuesHold then none else some .badValue
    match firstRefusal valueTest es with
    | some r => some r
    | none =>
      let t := productsAfter es s.dose.products
      firstRefusal (fun e => if sharesCode t e.1 then some .badValue else none) es

/-- A stored Product Table (R142). -/
def storeProducts (es : List Entry) (s : State) : State :=
  { s with dose.products := productsAfter es s.dose.products }

/-- TABLE WRITE to PRODUCTS. -/
def writeProducts : Byte → Byte → List Byte → State → State := writeTable 5 refuseProducts storeProducts

/-! ### VALVES (R168) -/

/-- R168. -/
def refuseModes (es : List Entry) (s : State) : Option Refused :=
  firstRefusal (fun e => modeRefusal s e.1 (byteAt e.2 0)) es

/-- Stored valve modes (R168). -/
def storeModes (es : List Entry) (s : State) : State := storeEach (fun e => storeMode e.1 (byteAt e.2 0)) es s

/-- TABLE WRITE to VALVES. -/
def writeModes : Byte → Byte → List Byte → State → State := writeTable 6 refuseModes storeModes

/-! ### TEST WEIGHTS (R114) -/

/-- Whether a value lies in the range of its entry (Table 5-6); the step pointer is not written. -/
def testWeightInRange (i : Nat) (v : Int) : Bool :=
  if i < 8 then netInRange v
  else if i == 8 then decide (1 ≤ v) && decide (v ≤ 8)
  else if i == 9 then v == 0 || v == 1
  else if i < 14 then decide (-32768 ≤ v) && decide (v ≤ 32767)
  else false

/-- R114. -/
def refuseTestWeights (es : List Entry) (_ : State) : Option Refused :=
  firstRefusal (fun e => if testWeightInRange e.1 (leInt e.2) then none else some .badValue) es

/-- One stored entry of TEST WEIGHTS. -/
def TestState.store (t : TestState) (i : Nat) (v : Int) : TestState :=
  if i < 8 then { t with weights := t.weights.set i v }
  else if i == 8 then { t with count := v.toNat }
  else if i == 9 then { t with mode := if v == 1 then .step else .fixed }
  else { t with ripple := t.ripple.set (i - 10) v }

/-- Stored TEST WEIGHTS; a step pointer left at or above the count returns to 0 (R114). -/
def storeTestWeights (es : List Entry) (s : State) : State :=
  let t := es.foldl (fun t e => t.store e.1 (leInt e.2)) s.weigh.test
  { s with weigh.test := if t.count ≤ t.pointer then { t with pointer := 0 } else t }

/-- TABLE WRITE to TEST WEIGHTS. -/
def writeTestWeights : Byte → Byte → List Byte → State → State := writeTable 7 refuseTestWeights storeTestWeights

/-! ### EVENTS (R191) -/

/-- R191. -/
def refuseEvents (es : List Entry) (_ : State) : Option Refused :=
  firstRefusal (fun e => if (byteAt e.2 0).toNat ≤ 1 then none else some .badValue) es

/-- The masks with mask i on or off. -/
def setMask (i : Nat) (on : Bool) (m : BitVec 18) : BitVec 18 :=
  if on then m ||| (1#18 <<< i) else m &&& ~~~(1#18 <<< i)

/-- Stored masks; one turned on while its latch is set sends nothing (R191). -/
def storeEvents (es : List Entry) (s : State) : State :=
  { s with mgmt.masks := es.foldl (fun m e => setMask e.1 (byteAt e.2 0 == 1) m) s.mgmt.masks }

/-- TABLE WRITE to EVENTS. -/
def writeEvents : Byte → Byte → List Byte → State → State := writeTable 10 refuseEvents storeEvents

/-! ### SETTINGS (R188, Table 9-5) -/

/-- A value between two ends, both included. -/
def between (lo hi v : Int) : Bool := decide (lo ≤ v) && decide (v ≤ hi)

/-- The port rates of Table 6-3. -/
def isPortRate (v : Int) : Bool :=
  [9600, 19200, 38400, 57600, 115200, 230400, 460800, 921600].contains v

/-- BAD_VALUE unless a test holds. -/
def valueTest (ok : Bool) : Option Status := if ok then none else some .badValue

/-- An entry written in IDLE only: IN_USE in RUN, before its value (R188, log 13). -/
def idleOnly (s : State) (rest : Option Status) : Option Status :=
  match s.track.line with
  | .run => some .inUse
  | .idle => rest

/-- Whether eight bytes hold a lot string (R120, R196). -/
def isLot (b : List Byte) : Bool := (b.take 6).all isCodeChar && byteAt b 6 == 0 && byteAt b 7 == 0

/-- The refusal of one SETTINGS entry by its owner (Table 9-5). The entries 0, 1 and 15 are read-only. -/
def settingRefusal (s : State) (e : Entry) : Option Status :=
  let v := leInt e.2
  match e.1 with
  | 2 => idleOnly s (if between 8 48 v then valveCountRefusal s v.toNat else some .badValue)
  | 3 | 4 | 5 | 6 | 7 => valueTest (between 0 255 v)
  | 8 => valueTest (between 0 63 v)
  | 9 => valueTest (between 1200 9600 v)
  | 10 => valueTest (between 4 64 v)
  | 11 => valueTest (between 0 65535 v)
  | 12 => valueTest (between 0 1 v)
  | 13 => valueTest (between 0 65535 v)
  | 14 => idleOnly s (valueTest (between 1 16777216 v))
  | 16 => valueTest (isLot e.2)
  | 17 => if isPortRate v then (if s.code.enable then some .inUse else none) else some .badValue
  | 18 => if between 0 1 v then (if s.code.enable then some .inUse else none) else some .badValue
  | 19 => valueTest (between 0 1 v)
  | 20 => valueTest (between 10 2550 v && v % 10 == 0)
  | 21 => valueTest (between 5 255 v)
  | 22 => valueTest (between 0 255 v)
  | 23 => valueTest (between 0 2 v)
  | _ => some .badValue

/-- Every entry is tested against the state before the write, in index order (R186). -/
def refuseSettings (es : List Entry) (s : State) : Option Refused := firstRefusal (settingRefusal s) es

/-- Table 10-10, report mode. -/
def reportModeOf (v : Int) : ReportMode := if v == 0 then .off else if v == 1 then .rejects else .all

/-- One stored SETTINGS entry, with the effect its owner gives (Table 9-5). -/
def storeSetting (e : Entry) (s : State) : State :=
  let v := (leInt e.2).toNat
  match e.1 with
  | 2 => storeValveCount v s
  | 3 => storeFilterTime (.discrete .discharge) v s
  | 4 => storeFilterTime (.discrete .home) v s
  | 5 => storeFilterTime (.discrete .pocket) v s
  | 6 => storeFilterTime (.discrete .platformEye) v s
  | 7 => storeFilterTime (.discrete .confirmEye) v s
  | 8 => storeFilterTime .encoder v s
  | 9 => storeSampleRate v s
  | 10 => discardTracking { s with weigh.blockSize := v }
  | 11 => discardTracking { s with weigh.settleBand := v }
  | 12 => discardTracking { s with weigh.zeroTracking := v == 1 }
  | 13 => discardTracking { s with weigh.zeroBand := v }
  | 14 => { s with weigh.factor := v }
  | 16 => { s with code.lot := e.2.take 6 }
  | 17 => { s with code.rate := v }
  | 18 => { s with code.format := if v == 1 then .sevenE1 else .eightN1 }
  | 19 => storeCodeEnable (v == 1) s
  | 20 => { s with dose.ackTimeout := v }
  | 21 => { s with verdict.pulseTime := v }
  | 22 => { s with verdict.lostRunLimit := v }
  | 23 => { s with mgmt.reportMode := reportModeOf v }
  | _ => s

/-- Stored settings. -/
def storeSettings (es : List Entry) (s : State) : State := storeEach storeSetting es s

/-- TABLE WRITE to SETTINGS. -/
def writeSettings : Byte → Byte → List Byte → State → State := writeTable 2 refuseSettings storeSettings

/-- TABLE WRITE to one entry of SETTINGS (log 16). -/
def writeSetting (i : Nat) (entry : BitVec 64) : State → State :=
  writeSettings (BitVec.ofNat 8 i) 1 (leBytes 8 entry.toNat)

/-- The SETTINGS index of a filter time (Table 9-5). -/
def filterIndex : FilterInput → Nat
  | .discrete .discharge => 3
  | .discrete .home => 4
  | .discrete .pocket => 5
  | .discrete .platformEye => 6
  | .discrete .confirmEye => 7
  | .encoder => 8

/-- The SETTINGS index of a weighing setting (Table 9-5). -/
def weighingIndex : WeighingSetting → Nat
  | .blockSize => 10
  | .settleBand => 11
  | .zeroTracking => 12
  | .zeroBand => 13

/-- The SETTINGS index of a setting of the code port's configuration (Table 9-5). -/
def codePortIndex : CodePortSetting → Nat
  | .rate => 17
  | .format => 18

/-! ### TABLE WRITE by payload (R186, tests 1 and 2) -/

/-- A TABLE WRITE by its payload. One too short is echoed as zeros (log 14). -/
def performTableWrite (data : List Byte) (s : State) : State :=
  match data with
  | id :: first :: count :: rest =>
    match id.toNat with
    | 1 => writeStations first count rest s
    | 2 => writeSettings first count rest s
    | 3 => writeDistances first count rest s
    | 4 => writeRules first count rest s
    | 5 => writeProducts first count rest s
    | 6 => writeModes first count rest s
    | 7 => writeTestWeights first count rest s
    | 10 => writeEvents first count rest s
    | _ => reply kindTableWrite ⟨.badTable, 0, [id, first, count]⟩ s
  | _ => reply kindTableWrite ⟨.badLength, 0, [0, 0, 0]⟩ s

/-! ## Actions (R189, Table 9-6) -/

/-- The REPLY of an action: its status and detail, and the action code as its data. -/
def actionReply (code : Byte) (st : Status) (detail : Byte) (s : State) : State :=
  reply kindAction ⟨st, detail, [code]⟩ s

/-- START (R58). -/
def actStart (s : State) : State :=
  let r := startLine s
  actionReply 1 r.1.1 r.1.2 r.2

/-- STOP (R59). -/
def actStop (s : State) : State := actionReply 2 .ok 0 (stopLine s)

/-- LINE RESET (R189): its REPLY is appended after the own queues have been emptied. -/
def actLineReset (s : State) : State := lineReset (actionReply 3 .ok 0) s

/-- SELECT PRODUCT (R145). -/
def actSelectProduct (code : BitVec 16) (s : State) : State :=
  let r := selectProduct code s
  actionReply 4 r.1 0 r.2

/-- The refusal of a ZERO (R105). -/
def zeroRefusal (s : State) : Option Status :=
  if s.weigh.testMode then some .inUse
  else if s.weigh.capture.isSome then some .busy
  else if s.weigh.slot != .none then some .busy
  else none

/-- ZERO (R105): an accepted one is answered at the end of the capture. -/
def actZero (s : State) : State :=
  match zeroRefusal s with
  | some st => actionReply 5 st 0 s
  | none => discardTracking { s with weigh.capture := some ⟨0, 0⟩ }

/-- CLEAR STOP (R179). -/
def actClearStop (s : State) : State := actionReply 6 .ok 0 (clearStopLatch s)

/-- CLEAR EVENTS (R191): bits 18 to 31 of the set are ignored. -/
def actClearEvents (set : BitVec 32) (s : State) : State :=
  actionReply 7 .ok 0 { s with mgmt.latches := s.mgmt.latches &&& ~~~(set.setWidth 18) }

/-- VALVE RELEASE (R162). -/
def actValveRelease (valve : Byte) (s : State) : State :=
  let r := releaseValve valve.toNat s
  actionReply 8 r.1.1 r.1.2 r.2

/-- VALVE CLEAR (R167). -/
def actValveClear (valve : Byte) (s : State) : State :=
  let r := clearValve valve.toNat s
  actionReply 9 r.1 0 r.2

/-- TEST ON as the Weighing Engine answers it, with its detail (R112). -/
def testModeOn (s : State) : (Status × Byte) × State :=
  if s.weigh.testMode then ((.ok, 0), s)
  else if s.weigh.capture.isSome then ((.busy, 0), s)
  else if s.weigh.factor == 0 then ((.notReady, detailCalibration), s)
  else ((.ok, 0), discardTracking { s with weigh.testMode := true, weigh.test.pointer := 0 })

/-- TEST ON (R112). -/
def actTestOn (s : State) : State :=
  let r := testModeOn s
  actionReply 10 r.1.1 r.1.2 r.2

/-- TEST OFF (R112). -/
def actTestOff (s : State) : State := actionReply 11 .ok 0 { s with weigh.testMode := false }

/-- Every counter but the can counters is set to 0 (R190). -/
def clearAllCounters (s : State) : State :=
  { s with
    ring.counters := {}
    pass.counters := {}
    input.counters := {}
    track.untracked := 0
    weigh.counters := {}
    code.counters := {}
    dose.counters := {}
    dose.valves := s.dose.valves.map (fun x => { x with counters := {} })
    verdict.counters := {}
    mgmt.counters := {} }

/-- CLEAR COUNTERS (R190): the REPLY appended after the clear is counted. -/
def actClearCounters (s : State) : State := actionReply 12 .ok 0 (clearAllCounters s)

/-- STOP REQUEST (R179). -/
def actStopRequest (s : State) : State := actionReply 13 .ok 0 (postCause .requested s)

/-- An ACTION whose code and argument agree with Table 9-6. -/
def performCode (code : Byte) (arg : List Byte) (s : State) : State :=
  match code.toNat with
  | 1 => actStart s
  | 2 => actStop s
  | 3 => actLineReset s
  | 4 => actSelectProduct (BitVec.ofNat 16 (leNat arg)) s
  | 5 => actZero s
  | 6 => actClearStop s
  | 7 => actClearEvents (BitVec.ofNat 32 (leNat arg)) s
  | 8 => actValveRelease (byteAt arg 0) s
  | 9 => actValveClear (byteAt arg 0) s
  | 10 => actTestOn s
  | 11 => actTestOff s
  | 12 => actClearCounters s
  | _ => actStopRequest s

/-- An ACTION by its payload (R189). -/
def performAction (data : List Byte) (s : State) : State :=
  match data with
  | [] => actionReply 0 .badLength 0 s
  | code :: arg =>
    match actionArgumentLength code with
    | none => actionReply code .badValue 0 s
    | some n => if arg.length == n then performCode code arg s else actionReply code .badLength 0 s

/-! ## A request by its frame (R30, R183) -/

/-- A frame of a management kind handed over by the Pass Stage. -/
def manageFrame (src kind : Byte) (data : List Byte) (s : State) : State :=
  if kind == kindTableRead then takeRequest src kind (performTableRead data) s
  else if kind == kindTableWrite then takeRequest src kind (performTableWrite data) s
  else if kind == kindAction then takeRequest src kind (performAction data) s
  else takeRequest src kind (performIdentify data) s

/-! ## Meanings -/

/-- UNKNOWN_KIND_REQUEST (R183). -/
def execUnknownKindRequest (kind : Byte) (s : State) : Result := event (unknownKindEvent kind) s

/-- IDENTIFY (R182). -/
def execIdentify (src : Byte) (data : List Byte) (s : State) : Result :=
  event (takeRequest src kindIdentify (performIdentify data)) s

/-- TABLE_READ (R185). -/
def execTableRead (src : Byte) (data : List Byte) (s : State) : Result :=
  event (takeRequest src kindTableRead (performTableRead data)) s

/-- STATIONS_WRITE (R187). -/
def execStationsWrite (src first count : Byte) (data : List Byte) (s : State) : Result :=
  event (takeRequest src kindTableWrite (writeStations first count data)) s

/-- DISTANCES_WRITE (R68). -/
def execDistancesWrite (src first count : Byte) (data : List Byte) (s : State) : Result :=
  event (takeRequest src kindTableWrite (writeDistances first count data)) s

/-- PASS_RULES_WRITE (R31). -/
def execPassRulesWrite (src first count : Byte) (data : List Byte) (s : State) : Result :=
  event (takeRequest src kindTableWrite (writeRules first count data)) s

/-- PRODUCTS_WRITE (R142). -/
def execProductsWrite (src first count : Byte) (data : List Byte) (s : State) : Result :=
  event (takeRequest src kindTableWrite (writeProducts first count data)) s

/-- VALVE_MODE_WRITE (R168). -/
def execValveModeWrite (src first count : Byte) (data : List Byte) (s : State) : Result :=
  event (takeRequest src kindTableWrite (writeModes first count data)) s

/-- TEST_WEIGHTS_WRITE (R114). -/
def execTestWeightsWrite (src first count : Byte) (data : List Byte) (s : State) : Result :=
  event (takeRequest src kindTableWrite (writeTestWeights first count data)) s

/-- EVENTS_WRITE (R191). -/
def execEventsWrite (src first count : Byte) (data : List Byte) (s : State) : Result :=
  event (takeRequest src kindTableWrite (writeEvents first count data)) s

/-- VALVE_COUNT_WRITE (R150). -/
def execValveCountWrite (src : Byte) (entry : BitVec 64) (s : State) : Result :=
  event (takeRequest src kindTableWrite (writeSetting 2 entry)) s

/-- FILTER_TIME_WRITE (R41, R43). -/
def execFilterTimeWrite (src : Byte) (which : FilterInput) (entry : BitVec 64) (s : State) : Result :=
  event (takeRequest src kindTableWrite (writeSetting (filterIndex which) entry)) s

/-- SAMPLE_RATE_WRITE (R92). -/
def execSampleRateWrite (src : Byte) (entry : BitVec 64) (s : State) : Result :=
  event (takeRequest src kindTableWrite (writeSetting 9 entry)) s

/-- WEIGHING_SETTINGS_WRITE (R115). -/
def execWeighingSettingsWrite (src : Byte) (which : WeighingSetting) (entry : BitVec 64) (s : State) : Result :=
  event (takeRequest src kindTableWrite (writeSetting (weighingIndex which) entry)) s

/-- CALIBRATION_FACTOR_WRITE (R103). -/
def execCalibrationFactorWrite (src : Byte) (entry : BitVec 64) (s : State) : Result :=
  event (takeRequest src kindTableWrite (writeSetting 14 entry)) s

/-- LOT_STRING_WRITE (R120). -/
def execLotStringWrite (src : Byte) (entry : BitVec 64) (s : State) : Result :=
  event (takeRequest src kindTableWrite (writeSetting 16 entry)) s

/-- CODE_PORT_CONFIG_WRITE (R123). -/
def execCodePortConfigWrite (src : Byte) (which : CodePortSetting) (entry : BitVec 64) (s : State) : Result :=
  event (takeRequest src kindTableWrite (writeSetting (codePortIndex which) entry)) s

/-- CODE_PORT_ENABLE (R127). -/
def execCodePortEnable (src : Byte) (entry : BitVec 64) (s : State) : Result :=
  event (takeRequest src kindTableWrite (writeSetting 19 entry)) s

/-- SETTINGS_WRITE (R188). -/
def execSettingsWrite (src first count : Byte) (data : List Byte) (s : State) : Result :=
  event (takeRequest src kindTableWrite (writeSettings first count data)) s

/-- START (R58). -/
def execStart (src : Byte) (s : State) : Result := event (takeRequest src kindAction actStart) s

/-- STOP (R59). -/
def execStop (src : Byte) (s : State) : Result := event (takeRequest src kindAction actStop) s

/-- LINE_RESET_ACTION (R189). -/
def execLineResetAction (src : Byte) (s : State) : Result := event (takeRequest src kindAction actLineReset) s

/-- SELECT_PRODUCT (R145). -/
def execSelectProduct (src : Byte) (code : BitVec 16) (s : State) : Result :=
  event (takeRequest src kindAction (actSelectProduct code)) s

/-- ZERO (R105). -/
def execZero (src : Byte) (s : State) : Result := event (takeRequest src kindAction actZero) s

/-- CLEAR_STOP (R179). -/
def execClearStop (src : Byte) (s : State) : Result := event (takeRequest src kindAction actClearStop) s

/-- CLEAR_EVENTS (R191). -/
def execClearEvents (src : Byte) (set : BitVec 32) (s : State) : Result :=
  event (takeRequest src kindAction (actClearEvents set)) s

/-- VALVE_RELEASE (R162). -/
def execValveRelease (src valve : Byte) (s : State) : Result :=
  event (takeRequest src kindAction (actValveRelease valve)) s

/-- VALVE_CLEAR (R167). -/
def execValveClear (src valve : Byte) (s : State) : Result :=
  event (takeRequest src kindAction (actValveClear valve)) s

/-- TEST_ON (R112). -/
def execTestOn (src : Byte) (s : State) : Result := event (takeRequest src kindAction actTestOn) s

/-- TEST_OFF (R112). -/
def execTestOff (src : Byte) (s : State) : Result := event (takeRequest src kindAction actTestOff) s

/-- CLEAR_COUNTERS (R190). -/
def execClearCounters (src : Byte) (s : State) : Result := event (takeRequest src kindAction actClearCounters) s

/-- STOP_REQUEST (R179). -/
def execStopRequest (src : Byte) (s : State) : Result := event (takeRequest src kindAction actStopRequest) s

/-- BAD_TABLE_WRITE (R186). -/
def execBadTableWrite (src : Byte) (data : List Byte) (s : State) : Result :=
  event (takeRequest src kindTableWrite (performTableWrite data)) s

/-- UNKNOWN_ACTION_CODE (R189). -/
def execUnknownActionCode (src : Byte) (data : List Byte) (s : State) : Result :=
  event (takeRequest src kindAction (performAction data)) s

end Sys2Proof.Machine
end

