-- ==== Sys2Proof/Machine/Pass.lean ====
section
/-! DEFINITION. The Pass Stage (chapter 2): the decision on a good frame, snooping, and the rewriting of DOSE SET under
TRIM. -/

namespace Sys2Proof.Machine

/-! ## Ring faults and the Forward Queue (R15, R17) -/

/-- The faults of R15. -/
inductive RingFault where
  | overrun
  | framing
  | truncated
  | length
  | check
  deriving DecidableEq, Repr

/-- The counter of a fault counts once (Table 1-6). -/
def RingCounters.fault (c : RingCounters) : RingFault → RingCounters
  | .overrun => { c with overrun := c.overrun + 1 }
  | .framing => { c with framing := c.framing + 1 }
  | .truncated => { c with truncated := c.truncated + 1 }
  | .length => { c with length := c.length + 1 }
  | .check => { c with check := c.check + 1 }

/-- A frame is abandoned or fails: its fault is counted and RING_ERROR raised (R15). -/
def ringFault (f : RingFault) (s : State) : State :=
  raise .ringError { s with ring.counters := s.ring.counters.fault f }

/-- A frame is sent on to the Forward Queue, or lost to OVERRUN (R17). -/
def sendOn (f : List Byte) (s : State) : State :=
  if s.ring.forward.length < Config.forwardCapacity then { s with ring.forward := s.ring.forward ++ [f] }
  else ringFault .overrun s

/-! ## Frames addressed to the part (R30) -/

/-- A frame with its kind handed to the block that takes it, or dropped (R30). The addressed-frame count is taken before
the consumer acts, so that a CLEAR COUNTERS received as a frame clears the count of that frame (log 29, DESIGN CHOICE;
R39 allows either order). -/
def addressedFrame (f : List Byte) (s : State) : State :=
  let s := { s with pass.counters.addressed := s.pass.counters.addressed + 1 }
  let k := frameKind f
  if k == kindFillAck then
    if frameLength f == 4 then
      let p := framePayload f
      takeAck (byteAt p 0) (byteAt p 1) (byteAt p 2) (byteAt p 3) s
    else { s with pass.counters.malformed := s.pass.counters.malformed + 1 }
  else if k == kindTableRead || k == kindTableWrite || k == kindAction || k == kindIdentify then
    manageFrame (frameSource f) k (framePayload f) s
  else if frameSource f == 0 then unknownKindEvent k s
  else { s with pass.counters.unknownKind := s.pass.counters.unknownKind + 1 }

/-! ## Rules (R32) -/

/-- A field matches: ANY every value, a number that number (R32). -/
def fieldMatches (field : Option Byte) (b : Byte) : Bool :=
  match field with
  | none => true
  | some x => x == b

/-- A rule matches a frame (R32). -/
def PassRule.hits (r : PassRule) (f : List Byte) : Bool :=
  fieldMatches r.dest (frameDest f) && fieldMatches r.source (frameSource f) && fieldMatches r.kind (frameKind f)

/-- The action of the first rule that matches; none where no rule does (R32). -/
def ruleFor (rules : List (Option PassRule)) (f : List Byte) : Option PassAction :=
  (rules.findSome? (fun o => o.bind (fun r => if r.hits f then some r.action else none)))

/-! ## SNOOP (R35) -/

/-- The copy of a snooped frame is dealt with by kind (R35). -/
def snoopCopy (f : List Byte) (s : State) : State :=
  if frameKind f == kindProductSelect then
    if frameLength f == 2 then snoopedProduct (BitVec.ofNat 16 (leNat (framePayload f))) s
    else { s with pass.counters.malformed := s.pass.counters.malformed + 1 }
  else { s with pass.counters.ignoredSnoops := s.pass.counters.ignoredSnoops + 1 }

/-! ## TRIM (R36, R37) -/

/-- A DOSE SET payload is well formed: L at least 2, n in 1 to 16, L equal to 2 + 3n (R36). -/
def doseSetWellFormed (p : List Byte) : Bool :=
  let n := (byteAt p 1).toNat
  decide (2 ≤ p.length) && decide (1 ≤ n) && decide (n ≤ 16) && p.length == 2 + 3 * n

/-- One pair of valve and dose under TRIM (R36): its dose is captured as the valve's base, and the base plus the trim lent
goes out in its place. A valve outside 1 to the valve count leaves the pair as received. -/
def rewritePair (pair : List Byte) (s : State) : List Byte × State :=
  let v := (byteAt pair 0).toNat
  if s.valveInCount v then
    let t := captureBase v (leNat (slice pair 1 2)) s
    let dose := clamp 0 65535 (((t.valve v).base : Int) + (t.valve v).lentTrim)
    (byteAt pair 0 :: leBytes 2 dose.toNat, t)
  else (pair, s)

/-- The pairs of a DOSE SET, first to last (R36). -/
def rewritePairs : List (List Byte) → State → List Byte × State
  | [], s => ([], s)
  | pair :: rest, s =>
    let r := rewritePair pair s
    let q := rewritePairs rest r.2
    (r.1 ++ q.1, q.2)

/-- A well-formed DOSE SET rewritten, with its check recomputed (R36, R37). -/
def rewriteFrame (f : List Byte) (s : State) : List Byte × State :=
  let p := framePayload f
  let r := rewritePairs (chunks 3 (byteAt p 1).toNat (p.drop 2)) s
  (withCheck (f.take 4 ++ p.take 2 ++ r.1), r.2)

/-- A frame under a TRIM rule (R36, R37). -/
def trimDecision (f : List Byte) (s : State) : State :=
  if frameKind f != kindDoseSet then sendOn f s
  else if doseSetWellFormed (framePayload f) then
    let r := rewriteFrame f s
    sendOn r.1 { r.2 with pass.counters.rewrites := r.2.pass.counters.rewrites + 1 }
  else sendOn f { s with pass.counters.malformed := s.pass.counters.malformed + 1 }

/-! ## The decision (R27, Table 2-1) -/

/-- A good frame is handed over and decided (R27 to R37). A snoop copy and a base capture stand even where the frame is
then lost to OVERRUN (log 19). -/
def passFrame (f : List Byte) (s : State) : State :=
  if repeaterOnly s then sendOn f s
  else if frameSource f == s.mgmt.ownStation then
    { s with pass.counters.orphans := s.pass.counters.orphans + 1 }
  else if frameDest f == s.mgmt.ownStation then addressedFrame f s
  else match ruleFor s.pass.rules f with
    | none | some .pass => sendOn f s
    | some .drop => { s with pass.counters.drops := s.pass.counters.drops + 1 }
    | some .snoop =>
      sendOn f (snoopCopy f { s with pass.counters.snoops := s.pass.counters.snoops + 1 })
    | some .trim => trimDecision f s

end Sys2Proof.Machine
end

