-- ==== Sys2Proof/Machine/Ring.lean ====
section
/-! DEFINITION. The Ring Port (chapter 1): the character receiver and breaks, the frame assembler, the transmitter and its
relays, NOTICE retries, the RESET pin, and the meanings of the ring's commands. -/

namespace Sys2Proof.Machine

/-- A character time at the strapped rate (R1). -/
def State.characterTicks (s : State) : Ticks := s.ring.rate.characterTicks

/-! ## The frame assembler (R8 to R16) -/

/-- A mark character starts a frame (Table 1-3). -/
def startFrame (data : Byte) (noisy : Bool) (s : State) : State :=
  { s with ring.assembler := .receiving [data] noisy s.now }

/-- A frame is complete (R9): a good one is handed to the Pass Stage, another fails with CHECK. -/
def completeFrame (f : List Byte) (noisy : Bool) (s : State) : State :=
  let s := { s with ring.assembler := .waitMark }
  if checkVerifies f then
    let s := { s with ring.counters.goodFrames := s.ring.counters.goodFrames + 1 }
    let s := if noisy then { s with ring.counters.noisyFrames := s.ring.counters.noisyFrames + 1 } else s
    passFrame f s
  else ringFault .check s

/-- The partial frame with its next character is complete. -/
def frameIsComplete (chars : List Byte) : Bool := chars.length == 6 + frameLength chars

/-- A sound character without a mark is taken into the partial frame (R8, R9, R14). -/
def extendFrame (chars : List Byte) (noisy : Bool) (s : State) : State :=
  if chars.length == 4 && decide (Config.maxPayload < frameLength chars) then
    ringFault .length { s with ring.assembler := .discard s.now }
  else if frameIsComplete chars then completeFrame chars noisy s
  else { s with ring.assembler := .receiving chars noisy s.now }

/-- A delivery to the assembler (Table 1-3). -/
def assemble (data : Byte) (mark sound noisy : Bool) (s : State) : State :=
  match s.ring.assembler with
  | .waitMark =>
    if sound && mark then startFrame data noisy s
    else { s with ring.counters.strays := s.ring.counters.strays + 1 }
  | .receiving chars flag _ =>
    if !sound then ringFault .framing { s with ring.assembler := .discard s.now }
    else if mark then startFrame data noisy (ringFault .truncated { s with ring.assembler := .waitMark })
    else extendFrame (chars ++ [data]) (flag || noisy) s
  | .discard _ =>
    if sound && mark then startFrame data noisy s else { s with ring.assembler := .discard s.now }

/-! ## The character receiver and breaks (R2 to R6) -/

/-- Whether a break is running. -/
def Receiver.isInBreak : Receiver → Bool
  | .inBreak _ _ => true
  | .waitEdge | .waitHigh | .lowAtReset => false

/-- A false start marks the partial frame NOISY and has no effect at any other time (R3). -/
def falseStart (s : State) : State :=
  let s := { s with ring.receiver := .waitEdge }
  match s.ring.assembler with
  | .receiving chars _ since => { s with ring.assembler := .receiving chars true since }
  | .waitMark | .discard _ => s

/-- A relay is requested at the detection of a break (R7). A running relay takes as its base the time already relayed
(log 9); a pending request stands. -/
def requestRelay (s : State) : State :=
  match s.ring.tx with
  | .relay since _ required => { s with ring.tx := .relay since (s.now - since) required }
  | _ =>
    match s.ring.relayPending with
    | some _ => s
    | none => { s with ring.relayPending := some 0 }

/-- The start of a break that is detected now (R4, R25, log 10): one character time ago, the falling edge, or for a line
low since the end of reset that end, which is the clock's 0. -/
def breakStart (s : State) : Ticks := s.now - s.characterTicks

/-- Whether the assembler holds a partial frame. -/
def Assembler.isReceiving : Assembler → Bool
  | .receiving _ _ _ => true
  | .waitMark | .discard _ => false

/-- A break is detected (R4, R5). It has lasted one character time, so the clock stands there at least (log 10). -/
def ringBreakDetected (s : State) : State :=
  let s := advanceTo s.characterTicks s
  let cut := s.ring.assembler.isReceiving
  let s := { s with
    ring.receiver := .inBreak (breakStart s) false
    ring.assembler := .waitMark
    ring.forward := [] }
  requestRelay (if cut then ringFault .truncated s else s)

/-- BREAK (R5): a break begins only while none is running. -/
def ringBreakEvent (s : State) : State :=
  if s.ring.receiver.isInBreak then s else ringBreakDetected s

/-- A character is sampled on Ring In (R2, R3, R4). In a break the receiver delivers nothing (R5). After a sound character it
looks for the next falling edge, whatever the level at the end of the stop bit period (log 32, DESIGN CHOICE). -/
def ringCharacterEvent (c : RingSamples) (s : State) : State :=
  if s.ring.receiver.isInBreak then s
  else match receiveRing c with
    | .falseStart => falseStart s
    | .lineBreak => ringBreakDetected s
    | .character data mark sound noisy =>
      assemble data mark sound noisy
        { s with ring.receiver := if !sound && c.lowAtEnd then .waitHigh else .waitEdge }

/-- RING_FALSE_START (R3). -/
def falseStartEvent (s : State) : State := if s.ring.receiver.isInBreak then s else falseStart s

/-- FRAME_COMPLETE (R9): the second check byte is delivered, sound and without a mark bit. -/
def frameCompleteEvent (data : Byte) (noisy : Bool) (s : State) : State :=
  match s.ring.assembler with
  | .receiving chars flag _ =>
    if frameIsComplete (chars ++ [data]) then completeFrame (chars ++ [data]) (flag || noisy) s else s
  | .waitMark | .discard _ => s

/-- The length of a break is recorded for the relay (R7, log 9). -/
def recordBreak (len : Nat) (s : State) : State :=
  match s.ring.tx with
  | .relay since base required => { s with ring.tx := .relay since base (max required (base + len)) }
  | _ => { s with ring.relayPending := s.ring.relayPending.map (max len) }

/-- A break that began at `start` ends after `len` (R5, R6). -/
def breakEnds (start len : Nat) (s : State) : State :=
  recordBreak len { advanceTo (start + len) s with ring.receiver := .waitEdge }

/-- RESYNC (R5): a break ends before it has lasted 20 ms. -/
def resyncEvent (len : Nat) (s : State) : State :=
  match s.ring.receiver with
  | .inBreak start false =>
    if len < Config.longBreakTicks then
      breakEnds start len { s with ring.counters.resyncs := s.ring.counters.resyncs + 1 }
    else s
  | _ => s

/-- LONG_BREAK (R6): a break has lasted 20 ms, and a line reset is taken. -/
def longBreakEvent (s : State) : State :=
  match s.ring.receiver with
  | .inBreak start false =>
    let s := advanceTo (start + Config.longBreakTicks) s
    lineReset id
      { s with
        ring.receiver := .inBreak start true
        ring.counters.longBreaks := s.ring.counters.longBreaks + 1 }
  | _ => s

/-- LONG_BREAK_END (R6). -/
def longBreakEndEvent (len : Nat) (s : State) : State :=
  match s.ring.receiver with
  | .inBreak start true => breakEnds start len s
  | _ => s

/-- The receiver once Ring In is high outside a break: it no longer waits for the line to return (R2). -/
def Receiver.lineHigh : Receiver → Receiver
  | .waitHigh => .waitEdge
  | r => r

/-- The moment at which the inter-character timer, started at `since`, expires where Ring In has been low for `low` clock
units since then: 8 character times in which the line was not low (R13). -/
def interCharacterDue (s : State) (since low : Ticks) : Ticks :=
  since + low + Config.interCharacterTimeout * s.characterTicks

/-- INTER_CHARACTER_TIMEOUT (R13). The timer counts no time in which Ring In is low. While the receiver waits for the line
to return high, the line has been low for some time since the timer started, so a timeout with no such time cannot come
about (logs 1 and 31). At the expiry the line is high. -/
def interCharacterEvent (low : Ticks) (s : State) : State :=
  if s.ring.receiver == .waitHigh && low == 0 then s
  else
    let ended (since : Ticks) : State :=
      { advanceTo (interCharacterDue s since low) s with
        ring.receiver := s.ring.receiver.lineHigh
        ring.assembler := .waitMark }
    match s.ring.assembler with
    | .receiving _ _ since => ringFault .truncated (ended since)
    | .discard since => ended since
    | .waitMark => s

/-! ## The transmitter (R22, R23, R7) -/

/-- The characters of the frame in SENDING, as they go out on Ring Out (R23); none in another state. -/
def State.ringOutCharacters (s : State) : List (BitVec 11) :=
  match s.ring.tx with
  | .sending bytes _ _ => frameCharacters bytes
  | .gap _ | .ready | .relay _ _ _ => []

/-- Bit `k` of characters sent back to back; high beyond the last. -/
def bitOfCharacters (cs : List (BitVec 11)) (k : Nat) : Bool :=
  match cs[k / Config.ringCharacterBits]? with
  | some c => c.getLsbD (k % Config.ringCharacterBits)
  | none => true

/-- The level of Ring Out now: high while RESET is low (R25), low in a relay (R7), the bits of the frame in SENDING (R23),
and high otherwise. -/
def State.ringOut (s : State) : Bool :=
  s.resetLow ||
    match s.ring.tx with
    | .gap _ | .ready => true
    | .relay _ _ _ => false
    | .sending _ _ since => bitOfCharacters s.ringOutCharacters ((s.now - since) / s.ring.rate.bitTicks)

/-- GAP: the idle gap of two character times expires (R22). -/
def gapEvent (s : State) : State :=
  match s.ring.tx with
  | .gap since =>
    { advanceTo (since + Config.gapCharacters * s.characterTicks) s with ring.tx := .ready }
  | _ => s

/-- FRAME_SENT: the last stop bit of the frame in SENDING ends (R23). -/
def frameSentEvent (s : State) : State :=
  match s.ring.tx with
  | .sending bytes own since =>
    let s := advanceTo (since + bytes.length * s.characterTicks) s
    let s := { s with ring.tx := .gap s.now }
    if own then { s with ring.counters.own := s.ring.counters.own + 1 }
    else { s with ring.counters.forwarded := s.ring.counters.forwarded + 1 }
  | _ => s

/-- RELAY_END: Ring In is high and the relay has lasted what it must (R7). In a break Ring In is low. -/
def relayEndEvent (s : State) : State :=
  match s.ring.tx with
  | .relay since _ required =>
    if s.ring.receiver.isInBreak then s
    else
      let s := advanceTo (since + required) s
      { s with ring.tx := .gap s.now, ring.counters.relays := s.ring.counters.relays + 1 }
  | _ => s

/-- NOTICE_RETRY: the retry that a departure from the Routine Queue made due (R192, log 5). -/
def noticeRetryEvent (s : State) : State :=
  if s.mgmt.noticePending && s.mgmt.noticeRetryDue then
    match queueNotice s with
    | (true, t) => { t with mgmt.noticePending := false, mgmt.noticeRetryDue := false }
    | (false, t) => { t with mgmt.noticeRetryDue := false }
  else s

/-! ## Meanings -/

/-- HARD_RESET (R25): every state returns to its reset value with the pins as read. The waiting commands are the world's
and are kept. -/
def execHardReset (pins : Pins) (s : State) : Result := .next (State.afterReset pins s.pending)

/-- RESET_ASSERTED (R25, R138): a frame or relay on Ring Out and a trigger on CODE are cut off, and REJECT and STOP go
off while RESET stays low. -/
def execResetAsserted (s : State) : Result :=
  if s.resetLow then .next s
  else .next { s with resetLow := true, ring.tx := .gap s.now, code.sending := none }

/-- RING_CHARACTER (R8). -/
def execRingCharacter (c : RingSamples) (s : State) : Result := event (ringCharacterEvent c) s

/-- FRAME_COMPLETE (R9). -/
def execFrameComplete (data : Byte) (noisy : Bool) (s : State) : Result := event (frameCompleteEvent data noisy) s

/-- INTER_CHARACTER_TIMEOUT (R13). -/
def execInterCharacterTimeout (s : State) (low : Ticks := 0) : Result := event (interCharacterEvent low) s

/-- BREAK (R5). -/
def execRingBreak (s : State) : Result := event ringBreakEvent s

/-- RESYNC (R5). -/
def execResync (len : Nat) (s : State) : Result := event (resyncEvent len) s

/-- LONG_BREAK (R6). -/
def execLongBreak (s : State) : Result := event longBreakEvent s

/-- LONG_BREAK_END (R6). -/
def execLongBreakEnd (len : Nat) (s : State) : Result := event (longBreakEndEvent len) s

/-- GAP (R22). -/
def execGap (s : State) : Result := event gapEvent s

/-- FRAME_SENT (R23). -/
def execFrameSent (s : State) : Result := event frameSentEvent s

/-- RELAY_END (R7). -/
def execRelayEnd (s : State) : Result := event relayEndEvent s

/-- NOTICE_RETRY (R192). -/
def execNoticeRetry (s : State) : Result := event noticeRetryEvent s

/-- RING_FALSE_START (R3). -/
def execRingFalseStart (s : State) : Result := event falseStartEvent s

end Sys2Proof.Machine
end

