-- ==== Sys2Proof/Machine/Dispatch.lean ====
section
/-! DEFINITION. The meaning of every command: one arm, one direct call. -/

namespace Sys2Proof.Machine

def exec (i : Instr) (s : State) : Host.Outcome State Fault Refusal :=
  match i with
  | .hardReset pins => Sys2Proof.Machine.execHardReset pins s
  | .ringCharacter c => Sys2Proof.Machine.execRingCharacter c s
  | .frameComplete data noisy => Sys2Proof.Machine.execFrameComplete data noisy s
  | .interCharacterTimeout low => Sys2Proof.Machine.execInterCharacterTimeout s low
  | .ringBreak => Sys2Proof.Machine.execRingBreak s
  | .resync len => Sys2Proof.Machine.execResync len s
  | .longBreak => Sys2Proof.Machine.execLongBreak s
  | .gap => Sys2Proof.Machine.execGap s
  | .frameSent => Sys2Proof.Machine.execFrameSent s
  | .relayEnd => Sys2Proof.Machine.execRelayEnd s
  | .noticeRetry => Sys2Proof.Machine.execNoticeRetry s
  | .inputPinChange input level => Sys2Proof.Machine.execInputPinChange input level s
  | .discharge => Sys2Proof.Machine.execDischarge s
  | .homeEdge => Sys2Proof.Machine.execHomeEdge s
  | .pocketChange => Sys2Proof.Machine.execPocketChange s
  | .arrival withStep => Sys2Proof.Machine.execArrival s withStep
  | .confirmEvent => Sys2Proof.Machine.execConfirmEvent s
  | .encoderPinChange a b => Sys2Proof.Machine.execEncoderPinChange a b s
  | .encoderStep => Sys2Proof.Machine.execEncoderStep s
  | .sampleFrame p => Sys2Proof.Machine.execSampleFrame p s
  | .shortFrame => Sys2Proof.Machine.execShortFrame s
  | .sampleLoss => Sys2Proof.Machine.execSampleLoss s
  | .codeCharacter p => Sys2Proof.Machine.execCodeCharacter p s
  | .codeBreak => Sys2Proof.Machine.execCodeBreak s
  | .codeBreakEnd => Sys2Proof.Machine.execCodeBreakEnd s
  | .idleTimerExpiry => Sys2Proof.Machine.execIdleTimerExpiry s
  | .triggerSent lineHigh => Sys2Proof.Machine.execTriggerSent lineHigh s
  | .exchangeTimeout valve => Sys2Proof.Machine.execExchangeTimeout valve s
  | .rejectPulseExpiry => Sys2Proof.Machine.execRejectPulseExpiry s
  | .fillAck op tag valve status => Sys2Proof.Machine.execFillAck op tag valve status s
  | .unknownKindRequest kind => Sys2Proof.Machine.execUnknownKindRequest kind s
  | .identify src data => Sys2Proof.Machine.execIdentify src data s
  | .tableRead src data => Sys2Proof.Machine.execTableRead src data s
  | .stationsWrite src first count data => Sys2Proof.Machine.execStationsWrite src first count data s
  | .distancesWrite src first count data => Sys2Proof.Machine.execDistancesWrite src first count data s
  | .passRulesWrite src first count data => Sys2Proof.Machine.execPassRulesWrite src first count data s
  | .productsWrite src first count data => Sys2Proof.Machine.execProductsWrite src first count data s
  | .valveModeWrite src first count data => Sys2Proof.Machine.execValveModeWrite src first count data s
  | .testWeightsWrite src first count data => Sys2Proof.Machine.execTestWeightsWrite src first count data s
  | .eventsWrite src first count data => Sys2Proof.Machine.execEventsWrite src first count data s
  | .valveCountWrite src entry => Sys2Proof.Machine.execValveCountWrite src entry s
  | .filterTimeWrite src which entry => Sys2Proof.Machine.execFilterTimeWrite src which entry s
  | .sampleRateWrite src entry => Sys2Proof.Machine.execSampleRateWrite src entry s
  | .weighingSettingsWrite src which entry => Sys2Proof.Machine.execWeighingSettingsWrite src which entry s
  | .calibrationFactorWrite src entry => Sys2Proof.Machine.execCalibrationFactorWrite src entry s
  | .lotStringWrite src entry => Sys2Proof.Machine.execLotStringWrite src entry s
  | .codePortConfigWrite src which entry => Sys2Proof.Machine.execCodePortConfigWrite src which entry s
  | .codePortEnable src entry => Sys2Proof.Machine.execCodePortEnable src entry s
  | .settingsWrite src first count data => Sys2Proof.Machine.execSettingsWrite src first count data s
  | .start src => Sys2Proof.Machine.execStart src s
  | .stop src => Sys2Proof.Machine.execStop src s
  | .lineResetAction src => Sys2Proof.Machine.execLineResetAction src s
  | .selectProduct src code => Sys2Proof.Machine.execSelectProduct src code s
  | .zero src => Sys2Proof.Machine.execZero src s
  | .clearStop src => Sys2Proof.Machine.execClearStop src s
  | .clearEvents src set => Sys2Proof.Machine.execClearEvents src set s
  | .valveRelease src valve => Sys2Proof.Machine.execValveRelease src valve s
  | .valveClear src valve => Sys2Proof.Machine.execValveClear src valve s
  | .testOn src => Sys2Proof.Machine.execTestOn src s
  | .testOff src => Sys2Proof.Machine.execTestOff src s
  | .clearCounters src => Sys2Proof.Machine.execClearCounters src s
  | .stopRequest src => Sys2Proof.Machine.execStopRequest src s
  | .resetAsserted => Sys2Proof.Machine.execResetAsserted s
  | .longBreakEnd len => Sys2Proof.Machine.execLongBreakEnd len s
  | .ringFalseStart => Sys2Proof.Machine.execRingFalseStart s
  | .acceptedFallingEdge input => Sys2Proof.Machine.execAcceptedFallingEdge input s
  | .codeLineHigh => Sys2Proof.Machine.execCodeLineHigh s
  | .badTableWrite src data => Sys2Proof.Machine.execBadTableWrite src data s
  | .unknownActionCode src data => Sys2Proof.Machine.execUnknownActionCode src data s

end Sys2Proof.Machine
end

