-- ==== Sys2Proof/Machine/Step.lean ====
section
/-! DEFINITION. One step of the block: the command at the front of the queue, or one clock unit on an empty queue. -/

namespace Sys2Proof.Machine

/-- One step. On an empty queue one clock unit passes (log 2). -/
def step (s : State) : Host.Outcome State Fault Refusal :=
  match s.pending with
  | c :: rest => exec c { s with pending := rest }
  | [] => .next (advanceTo (s.now + 1) s)

/-- The state with the command that a word spells at the front of its queue; no word spells one (Sys2Proof.decodeTableWord). -/
def State.withFetchWord (s : State) (nbits w : Nat) : State :=
  match decodeTableWord nbits w with
  | some c => { s with pending := c :: s.pending }
  | none => s

end Sys2Proof.Machine
end

