-- ==== Sys2Proof/Safety.lean ====
section
/-! DEFINITION. The words that the statements use: a command taken, a state in which requests are heard, and the
invariants of the machine. -/

namespace Sys2Proof.Machine

/-- The command c is taken in s: exec answers a next state, the arbiter's choice made on t (R22, log 4). -/
def Taken (c : Instr) (s t : State) : Prop := exec c s = .next (arbitrate t)

/-- RESET is high, so events are taken (R25). -/
abbrev Awake (s : State) : Prop := s.resetLow = false

/-- RESET is high and the straps make the part a member of the ring, so that requests reach it (R182). -/
abbrev Listening (s : State) : Prop := s.resetLow = false ∧ repeaterOnly s = false

/-- A request is counted (R183). -/
def counted (s : State) : State :=
  { s with mgmt.counters.requests := s.mgmt.counters.requests + 1 }

/-- The REPLY of an accepted TABLE WRITE (Table 9-2). -/
def wroteReply (id first count : Byte) (s : State) : State :=
  appendReply 0 kindTableWrite ⟨.ok, 0, [id, first, count]⟩ s

/-- The REPLY of a refused TABLE WRITE (Table 9-2). -/
def refusedReply (st : Status) (detail id first count : Byte) (s : State) : State :=
  appendReply 0 kindTableWrite ⟨st, detail, [id, first, count]⟩ s

/-- The REPLY of an action (Table 9-2). -/
def actionAnswer (code : Byte) (st : Status) (detail : Byte) (s : State) : State :=
  appendReply 0 kindAction ⟨st, detail, [code]⟩ s

/-- A latch that a line reset raises makes a NOTICE fall due: LINE_RUN_OFF where the line was RUN (R85) or VALVE_FAULT where
an exchange is cut (R169), clear before and its mask on (R192). -/
def resetRaises (s : State) : Bool :=
  (s.track.line == .run && !s.latch .lineRunOff && s.mask .lineRunOff)
    || (s.dose.valves.any (fun x => x.state.inExchange) && !s.latch .valveFault && s.mask .valveFault)

/-- What a line reset leaves of every block (R24, R42, R49, R85, R99, R107, R116, R137, R169, R180, R192), `t` being the
state after it. `replies` are the frames appended right after the emptying: the REPLY of the LINE RESET action, or none. -/
def LineResetDone (replies : List RoutineFrame) (s t : State) : Prop :=
  t.now = s.now ∧ t.resetLow = s.resetLow ∧ t.pass = s.pass ∧ t.pending = s.pending
    ∧ t.ring = { s.ring with assembler := .waitMark, forward := [], urgent := [], routine := t.ring.routine }
    ∧ t.input = { s.input with index := .unknown }
    ∧ t.track = { s.track with line := .idle, queue := [], owner := none, counters := ⟨0, 0, 0, 0, 0, 0⟩ }
    ∧ t.weigh = { s.weigh with
        slot := .none, capture := none, testMode := false, block := SampleBlock.empty, run := TrackingRun.empty,
        counters := { s.weigh.counters with
          abandonedWindows := match s.weigh.slot with
            | .opened _ => s.weigh.counters.abandonedWindows + 1
            | _ => s.weigh.counters.abandonedWindows
          capturesAbandoned := match s.weigh.capture with
            | some _ => s.weigh.counters.capturesAbandoned + 1
            | none => s.weigh.counters.capturesAbandoned } }
    ∧ (s.code.readState ≠ .receiving → t.code = s.code)
    ∧ (s.code.readState = .receiving →
        t.code = { s.code with
          readState := .waitIdle, fifo := [], marks := {}, delivered := 0,
          idleTimer := (if s.code.lineHigh then some s.now else none),
          counters.abandoned := s.code.counters.abandoned + 1 })
    ∧ t.dose = { s.dose with valves := t.dose.valves }
    ∧ (∀ v, 1 ≤ v → v ≤ s.dose.valves.length →
        (t.valve v).window = [] ∧ (t.valve v).limitCount = 0 ∧ (t.valve v).lag = s.activeLag
          ∧ (t.valve v).base = (s.valve v).base ∧ (t.valve v).trim = (s.valve v).trim
          ∧ (t.valve v).generation = (s.valve v).generation
          ∧ (t.valve v).abandonedTag = (s.valve v).abandonedTag
          ∧ (t.valve v).counters = (s.valve v).counters
          ∧ ((s.valve v).state.inExchange = false → (t.valve v).state = (s.valve v).state)
          ∧ ((s.valve v).state.inExchange = true →
              (t.valve v).state = .fault ∧ (t.valve v).exchange = none ∧ (t.valve v).timer = none
                ∧ (t.valve v).pendingTrim = none))
    ∧ t.verdict = { s.verdict with pulse := none, lostRun := 0 }
    ∧ t.mgmt = { s.mgmt with
        latches := s.mgmt.latches ||| (if s.track.line = .run then 1#18 <<< 17 else 0#18)
          ||| (if s.dose.valves.any (fun x => x.state.inExchange) then 1#18 <<< 1 else 0#18)
        noticePending := t.mgmt.noticePending
        noticeRetryDue := s.mgmt.noticeRetryDue && !(noticeWaits s || s.mgmt.noticePending)
        counters := t.mgmt.counters }
    ∧ (repeaterOnly s = false →
        let again := noticeWaits s || s.mgmt.noticePending || resetRaises s
        t.ring.routine = replies ++ (if again then [.notice] else []) ∧ t.mgmt.noticePending = false
          ∧ t.mgmt.counters = { s.mgmt.counters with
              repliesQueued := s.mgmt.counters.repliesQueued + BitVec.ofNat 32 replies.length
              noticesQueued := if again then s.mgmt.counters.noticesQueued + 1 else s.mgmt.counters.noticesQueued })
    ∧ (repeaterOnly s = true →
        t.ring.routine = [] ∧ t.mgmt.noticePending = resetRaises s
          ∧ t.mgmt.counters = { s.mgmt.counters with
              repliesDropped := s.mgmt.counters.repliesDropped + BitVec.ofNat 32 replies.length
              noticeDeferrals :=
                if resetRaises s then s.mgmt.counters.noticeDeferrals + 1 else s.mgmt.counters.noticeDeferrals })

/-- A valve number of the part: 1 to the valve count, over the table's 48 entries (R148). -/
abbrev ValveIn (s : State) (v : Nat) : Prop :=
  s.dose.valves.length = 48 ∧ s.dose.valveCount ≤ 48 ∧ 1 ≤ v ∧ v ≤ s.dose.valveCount

/-- The source station and the frame kind of a request command (R183); none for a command that is no request. -/
def requestOf : Instr → Option (Byte × Byte)
  | .identify src _ => some (src, kindIdentify)
  | .tableRead src _ => some (src, kindTableRead)
  | .stationsWrite src _ _ _ | .distancesWrite src _ _ _ | .passRulesWrite src _ _ _ | .productsWrite src _ _ _
  | .valveModeWrite src _ _ _ | .testWeightsWrite src _ _ _ | .eventsWrite src _ _ _ | .settingsWrite src _ _ _
  | .valveCountWrite src _ | .filterTimeWrite src _ _ | .sampleRateWrite src _ | .weighingSettingsWrite src _ _
  | .calibrationFactorWrite src _ | .lotStringWrite src _ | .codePortConfigWrite src _ _ | .codePortEnable src _
  | .badTableWrite src _ => some (src, kindTableWrite)
  | .start src | .stop src | .lineResetAction src | .selectProduct src _ | .zero src | .clearStop src
  | .clearEvents src _ | .valveRelease src _ | .valveClear src _ | .testOn src | .testOff src | .clearCounters src
  | .stopRequest src | .unknownActionCode src _ => some (src, kindAction)
  | _ => none

/-- What a change of valve v by a dose change, an ack or a timeout may touch: the entry of valve v, the stale flags of
records, the regulator's counters, and what raising a latch touches. -/
def OnlyValve (v : Nat) (s t : State) : Prop :=
  t = { s with
    ring.routine := t.ring.routine
    track.queue := t.track.queue
    dose.valves := t.dose.valves
    dose.counters := t.dose.counters
    mgmt.latches := t.mgmt.latches
    mgmt.noticePending := t.mgmt.noticePending
    mgmt.counters := t.mgmt.counters }
  ∧ ∀ w, 1 ≤ w → w ≠ v → t.valve w = s.valve w

/-- Every record of `q` is in `p` under its serial, as it was but for a weight written. -/
def KeepsRecords (q p : List CanRecord) : Prop :=
  ∀ n x, findRecord n q = some x → ∃ y, findRecord n p = some y ∧ y = { x with weight := y.weight }

/-! ## Invariants -/

/-- R87: admitted and strays add up to exited, lost, flushed and the queue length, modulo 2^32. -/
abbrev CansBalance (s : State) : Prop :=
  s.track.counters.admitted + s.track.counters.strays =
    s.track.counters.exited + s.track.counters.lost + s.track.counters.flushed
      + BitVec.ofNat 32 s.track.queue.length

/-- R18, R19, R21, R60, R69, R130: no queue, list or FIFO holds more than it can. -/
abbrev WithinCapacity (s : State) : Prop :=
  s.ring.forward.length ≤ 4 ∧ s.ring.urgent.length ≤ 8 ∧ s.ring.routine.length ≤ 8 ∧ s.track.queue.length ≤ 128
    ∧ s.track.learned.length ≤ 16 ∧ s.code.fifo.length ≤ 32

/-- R57, R75: the Tracking Queue is empty in IDLE, and there is no window owner. -/
abbrev IdleHoldsNothing (s : State) : Prop :=
  s.track.line = .idle → s.track.queue = [] ∧ s.track.owner = none

/-- R60: no two records in the queue have the same serial, and the queue holds at most 128. -/
abbrev SerialsDistinct (s : State) : Prop :=
  (s.track.queue.map CanRecord.serial).Nodup ∧ s.track.queue.length ≤ 128

/-- R159, R149: of the 48 valves, each has an exchange and a running timer exactly in AWAIT_ACK, LOCKING and RELEASING,
and each above the valve count is DISABLED. -/
def ExchangesTimed (s : State) : Prop :=
  s.dose.valves.length = 48 ∧ s.dose.valveCount ≤ 48 ∧
    ∀ v, 1 ≤ v → v ≤ 48 →
      ((s.valve v).timer.isSome = (s.valve v).state.inExchange)
        ∧ ((s.valve v).exchange.isSome = (s.valve v).state.inExchange)
        ∧ (s.dose.valveCount < v → (s.valve v).state = .disabled)

/-- The NOTICE frames that wait in the Routine Queue. -/
def waitingNotices (s : State) : Nat := (s.ring.routine.filter RoutineFrame.isNotice).length

/-- R192: at most one NOTICE waits, and none while the notice-pending flag is set. -/
def OneNotice (s : State) : Prop :=
  waitingNotices s ≤ 1 ∧ (s.mgmt.noticePending = true → waitingNotices s = 0)

/-- R23, R17: every frame in the Forward Queue, and a forwarded frame in SENDING, carries a check that verifies. -/
def ForwardedVerify (s : State) : Prop :=
  (∀ f ∈ s.ring.forward, checkVerifies f = true) ∧
    ∀ bytes since, s.ring.tx = .sending bytes false since → checkVerifies bytes = true

end Sys2Proof.Machine
end

