-- ==== Sys2Proof/Certificates/Slice0/Obligations.lean ====
section
/-! DEFINITION. The statements for the provers, in the order of OBLIGATIONS.json. -/

open Sys2Proof Sys2Proof.Machine

/-! ## The block as a whole -/

/-- A step takes the command at the front of the queue: it is that command's meaning on the state with the queue's rest. -/
def Obligations.StepRunsFrontCommand : Prop :=
  ∀ (s : State) (c : Instr) (rest : List Instr), s.pending = c :: rest → step s = exec c { s with pending := rest }

/-- No step stops the block: every command answers a next state and leaves the commands that wait alone (log 25), and on
an empty queue one clock unit passes and nothing else changes (DESIGN CHOICE of the model, log 2). -/
def Obligations.EveryStepAnswersNext : Prop :=
  (∀ (c : Instr) (s : State), ∃ t, exec c s = .next t ∧ t.pending = s.pending)
  ∧ (∀ s : State, s.pending = [] → step s = .next { s with now := s.now + 1 })

/-- RESET falls: Ring Out is cut off and high, the trigger on CODE is cut, REJECT and STOP go off (R25, R54, R55, R138);
and while RESET is low nothing but HARD_RESET has an effect (R2, R25, R42, R86, R89, R138, R194; log 7). -/
def Obligations.ResetLowHoldsEverything : Prop :=
  (∀ s : State, Awake s → ∃ t, exec .resetAsserted s = .next t
    ∧ t = { s with resetLow := true, ring.tx := .gap s.now, code.sending := none }
    ∧ t.rejectOn = false ∧ t.stopOn = false)
  ∧ (∀ s : State, s.resetLow = true →
    s.rejectOn = false ∧ s.stopOn = false ∧ ∀ c : Instr, (∀ p, c ≠ .hardReset p) → exec c s = .next s)

/-- HARD_RESET gives every block but the Tracking Unit, which TrackingAtHardReset has, its reset values, the straps and
pins as read (R1, R25, R42, R116, R138, R169, R180, R182, R194, and the Hard reset columns of the tables). The model's
choices in it: the waiting commands are kept and its own fields are clear (log 24), the code line's level is the pin's with
no character under way (log 12), and entry 93 of COUNTERS reads a marker (log 23). -/
def Obligations.HardResetRestoresEverything : Prop :=
  ∀ (p : Pins) (s : State), ∃ t, exec (.hardReset p) s = .next t ∧ t.resetLow = false ∧ t.pending = s.pending
    ∧ t.ring.rate = RingRate.ofStraps p.rate ∧ t.ring.receiver = (if p.ringIn then .waitEdge else .lowAtReset)
    ∧ t.ring.assembler = .waitMark ∧ t.ring.forward = [] ∧ t.ring.urgent = [] ∧ t.ring.routine = []
    ∧ t.ring.tx = .gap t.now ∧ t.ring.relayPending = none
    ∧ t.pass.rules = List.replicate 16 none
    ∧ t.input.discharge = ⟨p.discharge, p.discharge, .stable, 20⟩ ∧ t.input.home = ⟨p.home, p.home, .stable, 20⟩
    ∧ t.input.pocket = ⟨p.pocket, p.pocket, .stable, 20⟩
    ∧ t.input.platformEye = ⟨p.platformEye, p.platformEye, .stable, 20⟩
    ∧ t.input.confirmEye = ⟨p.confirmEye, p.confirmEye, .stable, 20⟩
    ∧ t.input.encoder = ⟨(p.encA, p.encB), (p.encA, p.encB), .stable, 1⟩
    ∧ t.input.count = 0 ∧ t.input.direction = .forward ∧ t.input.index = .unknown
    ∧ t.input.counters = {} ∧ t.pass.counters = {} ∧ t.ring.counters = {}
    ∧ t.weigh.receiver = .idle ∧ t.weigh.block = ⟨0, 0, 0, 0⟩ ∧ t.weigh.run = ⟨0, 0⟩ ∧ t.weigh.counters = {}
    ∧ t.weigh.sampleLoss = false ∧ t.weigh.lossTimer = some t.now ∧ t.weigh.slot = .none ∧ t.weigh.zero = 0
    ∧ t.weigh.factor = 0 ∧ t.weigh.capture = none ∧ t.weigh.testMode = false ∧ t.weigh.sampleRate = 4800
    ∧ t.weigh.blockSize = 16 ∧ t.weigh.settleBand = 64 ∧ t.weigh.zeroTracking = false ∧ t.weigh.zeroBand = 2000
    ∧ t.weigh.test = ⟨List.replicate 8 0, 1, .fixed, List.replicate 4 0, 0⟩
    ∧ t.code.lot = List.replicate 6 0x30 ∧ t.code.rate = 115200 ∧ t.code.format = .eightN1 ∧ t.code.enable = false
    ∧ t.code.readState = .off ∧ t.code.idleTimer = none ∧ t.code.sending = none ∧ t.code.fifo = []
    ∧ t.code.marks = ⟨false, false, false, false⟩ ∧ t.code.delivered = 0 ∧ t.code.lastRead = none
    ∧ t.code.lineHigh = p.code ∧ t.code.underWay = false ∧ t.code.lowSince = none ∧ t.code.counters = {}
    ∧ t.dose.active = none ∧ t.dose.valveCount = 0 ∧ t.dose.ackTimeout = 250
    ∧ (∀ i, i < 16 → t.product i = ⟨0xFFFF, 0, 0, 0, 0, 0, 0, 0, 0, 0, 0, 0, 0, 0⟩)
    ∧ t.dose.products.length = 16 ∧ t.dose.valves.length = 48 ∧ (∀ v, 1 ≤ v → v ≤ 48 → t.valve v = {})
    ∧ t.verdict.pulse = none ∧ t.verdict.pulseTime = 40 ∧ t.verdict.stopLatch = ⟨false, false, false, false⟩
    ∧ t.verdict.lostRun = 0 ∧ t.verdict.lostRunLimit = 0
    ∧ t.mgmt.ownStation = p.station.setWidth 8 ∧ t.mgmt.filler = 0 ∧ t.mgmt.coder = 0 ∧ t.mgmt.latches = 0
    ∧ t.mgmt.masks = 0 ∧ t.mgmt.noticePending = false ∧ t.mgmt.noticeRetryDue = false ∧ t.mgmt.reportMode = .off
    ∧ (∀ i, i < 151 → i ≠ 93 → i ≠ 110 → (counterList t).getD i 0 = 0)

/-- The Tracking Unit at the end of hard reset, while RESET is low, and START before anything is loaded (R86). -/
def Obligations.TrackingAtHardReset : Prop :=
  (∀ (p : Pins) (s : State), ∃ t, exec (.hardReset p) s = .next t ∧ t.track.line = .idle ∧ t.track.queue = []
    ∧ t.track.owner = none ∧ t.track.nextSerial = 0 ∧ (∀ i, i ≤ 10 → t.distance i = none) ∧ t.track.override = false
    ∧ t.track.learned = [] ∧ t.track.counters = ⟨0, 0, 0, 0, 0, 0⟩ ∧ t.track.untracked = 0)
  ∧ (∀ (c : Instr) (s : State), s.resetLow = true → (∀ p, c ≠ .hardReset p) →
      ∃ t, exec c s = .next t ∧ t.track = s.track)
  ∧ (∀ s : State, Listening s → s.track.line = .idle →
      (s.dose.active = none ∨ distancesValid s.track.distances = false ∨ s.mgmt.filler = 0 ∨ s.mgmt.coder = 0
        ∨ s.dose.valveCount = 0 ∨ s.weigh.factor = 0) →
      ∃ d, Taken (.start 0) s (actionAnswer 1 .notReady d (counted s)))

/-! ## Ring Port -/

/-- The check register starts at 0xFFFF, takes each byte least significant bit first and steps as R10 gives; a frame is
its header and payload with the check behind them, low byte first, own and rewritten frames alike. -/
def Obligations.CheckFollowsGenerator : Prop :=
  checkOf [] = 0xFFFF#16
  ∧ (∀ (bs : List Byte) (b : Byte), checkOf (bs ++ [b]) =
      checkBit (checkBit (checkBit (checkBit (checkBit (checkBit (checkBit (checkBit (checkOf bs)
        (b.getLsbD 0)) (b.getLsbD 1)) (b.getLsbD 2)) (b.getLsbD 3)) (b.getLsbD 4)) (b.getLsbD 5)) (b.getLsbD 6))
        (b.getLsbD 7))
  ∧ (∀ (r : BitVec 16) (bit : Bool), checkBit r bit =
      if (bit ^^ r.getLsbD 0) = true then (r >>> 1) ^^^ 0x8408#16 else r >>> 1)
  ∧ (∀ bs : List Byte, withCheck bs = bs ++ [(checkOf bs).extractLsb' 0 8, (checkOf bs).extractLsb' 8 8])
  ∧ (∀ (s : State) (f : OwnFrame), f.payload.length ≤ 56 →
      ownFrameBytes s f =
        withCheck ([f.dest, s.mgmt.ownStation, f.kind, BitVec.ofNat 8 f.payload.length] ++ f.payload))
  ∧ (∀ (s : State) (f : List Byte), ∃ bs, (rewriteFrame f s).1 = withCheck bs)

/-- Every frame built carries a check that verifies, the check over the whole frame leaving 0 (R10, R23); and a rewritten
DOSE SET keeps its header, tag, count and valve bytes and carries a check that verifies (R36, R37). -/
def Obligations.BuiltAndRewrittenFramesVerify : Prop :=
  (∀ (dest source kind : Byte) (payload : List Byte), payload.length ≤ 56 →
    checkVerifies (buildFrame dest source kind payload) = true
      ∧ checkOf (buildFrame dest source kind payload) = 0)
  ∧ (∀ (s : State) (f : List Byte), f.length = 6 + frameLength f → doseSetWellFormed (framePayload f) = true →
    let g := (rewriteFrame f s).1
    g.length = f.length ∧ g.take 6 = f.take 6 ∧ checkVerifies g = true
      ∧ ∀ i, i < (byteAt f 5).toNat → byteAt g (6 + 3 * i) = byteAt f (6 + 3 * i))

/-- Table 1-3: the assembler's action on each delivery (R8, R11, R12, R14, R15, R16); what the receiver makes of a false
start, of a break, and of anything in a break (R3, R4, R5; log 11; log 32 for the line at a sound character's end). -/
def Obligations.AssemblerTakesCharacters : Prop :=
  (∀ (s : State) (c : RingSamples), Awake s →
    (s.ring.receiver.isInBreak = true → Taken (.ringCharacter c) s s)
    ∧ (s.ring.receiver.isInBreak = false → receiveRing c = .falseStart →
        exec (.ringCharacter c) s = exec .ringFalseStart s)
    ∧ (s.ring.receiver.isInBreak = false → receiveRing c = .lineBreak →
        exec (.ringCharacter c) s = exec .ringBreak s))
  ∧ ∀ (s : State) (c : RingSamples) (data : Byte) (mark sound noisy : Bool),
    Awake s → s.ring.receiver.isInBreak = false → receiveRing c = .character data mark sound noisy →
    let u : State := { s with ring.receiver := if !sound && c.lowAtEnd then .waitHigh else .waitEdge }
    (s.ring.assembler = .waitMark → sound = true → mark = true →
      Taken (.ringCharacter c) s { u with ring.assembler := .receiving [data] noisy s.now })
    ∧ (s.ring.assembler = .waitMark → (sound && mark) = false →
      Taken (.ringCharacter c) s { u with ring.counters.strays := s.ring.counters.strays + 1 })
    ∧ (∀ chars flag since, s.ring.assembler = .receiving chars flag since →
      (sound = false →
        Taken (.ringCharacter c) s (raise .ringError
          { u with ring.assembler := .discard s.now, ring.counters.framing := s.ring.counters.framing + 1 }))
      ∧ (sound = true → mark = true → ∃ v, v = raise .ringError
          { u with ring.assembler := .waitMark, ring.counters.truncated := s.ring.counters.truncated + 1 }
          ∧ Taken (.ringCharacter c) s { v with ring.assembler := .receiving [data] noisy s.now })
      ∧ (sound = true → mark = false → chars.length = 3 → 57 ≤ data.toNat →
        Taken (.ringCharacter c) s (raise .ringError
          { u with ring.assembler := .discard s.now, ring.counters.length := s.ring.counters.length + 1 }))
      ∧ (sound = true → mark = false → ¬(chars.length = 3 ∧ 57 ≤ data.toNat) →
        (chars ++ [data]).length ≠ 6 + frameLength (chars ++ [data]) →
        Taken (.ringCharacter c) s { u with ring.assembler := .receiving (chars ++ [data]) (flag || noisy) s.now })
      ∧ (sound = true → mark = false → ¬(chars.length = 3 ∧ 57 ≤ data.toNat) →
        (chars ++ [data]).length = 6 + frameLength (chars ++ [data]) →
        exec (.ringCharacter c) s = exec (.frameComplete data noisy) u))
    ∧ (∀ since, s.ring.assembler = .discard since →
      (sound = true → mark = true →
        Taken (.ringCharacter c) s { u with ring.assembler := .receiving [data] noisy s.now })
      ∧ ((sound && mark) = false → Taken (.ringCharacter c) s { u with ring.assembler := .discard s.now }))

/-- The second check byte completes a frame: it is good and handed to the Pass Stage, or fails with CHECK (R9). That its
counters are counted before the Pass Stage's consumer acts is the model's choice (log 29, DESIGN CHOICE). -/
def Obligations.FrameCompleteVerifies : Prop :=
  ∀ (s : State) (data : Byte) (noisy : Bool) (chars : List Byte) (flag : Bool) (since : Ticks), Awake s →
    s.ring.assembler = .receiving chars flag since →
    (chars ++ [data]).length = 6 + frameLength (chars ++ [data]) →
    let f := chars ++ [data]
    (checkVerifies f = false →
      Taken (.frameComplete data noisy) s (raise .ringError
        { s with ring.assembler := .waitMark, ring.counters.check := s.ring.counters.check + 1 }))
    ∧ (checkVerifies f = true →
      Taken (.frameComplete data noisy) s (passFrame f
        { s with
          ring.assembler := .waitMark
          ring.counters.goodFrames := s.ring.counters.goodFrames + 1
          ring.counters.noisyFrames :=
            if flag || noisy then s.ring.counters.noisyFrames + 1 else s.ring.counters.noisyFrames }))

/-- The inter-character timer's expiry after 8 character times in which Ring In was not low (R13; log 2 for the clock, log 31
for the low time that the command carries), a false start (R3), and the retry of a pending NOTICE (R192, log 5). -/
def Obligations.TimeoutFalseStartAndRetry : Prop :=
  (∀ (s : State) (chars : List Byte) (flag : Bool) (since : Ticks), Awake s →
    s.ring.assembler = .receiving chars flag since →
    (∀ low : Ticks, (s.ring.receiver = .waitHigh → 0 < low) →
      Taken (.interCharacterTimeout low) s (raise .ringError
        { s with
          now := max s.now (since + low + 8 * (11 * s.ring.rate.bitTicks))
          ring.receiver := if s.ring.receiver = .waitHigh then .waitEdge else s.ring.receiver
          ring.assembler := .waitMark
          ring.counters.truncated := s.ring.counters.truncated + 1 }))
    ∧ (s.ring.receiver.isInBreak = false →
        Taken .ringFalseStart s
          { s with ring.receiver := .waitEdge, ring.assembler := .receiving chars true since }))
  ∧ (∀ (s : State) (since low : Ticks), Awake s → s.ring.assembler = .discard since →
      (s.ring.receiver = .waitHigh → 0 < low) →
      Taken (.interCharacterTimeout low) s
        { s with
          now := max s.now (since + low + 8 * (11 * s.ring.rate.bitTicks))
          ring.receiver := if s.ring.receiver = .waitHigh then .waitEdge else s.ring.receiver
          ring.assembler := .waitMark })
  ∧ (∀ s : State, Awake s → s.ring.receiver = .waitHigh → Taken (.interCharacterTimeout 0) s s)
  ∧ (∀ s : State, Awake s → s.ring.receiver.isInBreak = false → s.ring.assembler.isReceiving = false →
      Taken .ringFalseStart s { s with ring.receiver := .waitEdge })
  ∧ (∀ s : State, Listening s → s.mgmt.noticePending = true → s.mgmt.noticeRetryDue = true →
      (s.ring.routine.length < 8 →
        Taken .noticeRetry s
          { s with
            ring.routine := s.ring.routine ++ [.notice]
            mgmt.noticePending := false
            mgmt.noticeRetryDue := false
            mgmt.counters.noticesQueued := s.mgmt.counters.noticesQueued + 1 })
      ∧ (8 ≤ s.ring.routine.length → Taken .noticeRetry s { s with mgmt.noticeRetryDue := false }))

/-- The detection of a break takes the resync actions and requests a relay (R5, R7). The break began one character time
before: where the line is low since the end of hard reset, at that end (R25; log 10 for the moment of the row). -/
def Obligations.BreakTakesResyncActions : Prop :=
  ∀ s : State, Awake s → s.ring.receiver.isInBreak = false → ∃ t, Taken .ringBreak s t
    ∧ t = { s with now := max s.now (11 * s.ring.rate.bitTicks), ring := t.ring, mgmt := t.mgmt }
    ∧ t.ring.forward = [] ∧ t.ring.assembler = .waitMark ∧ t.ring.urgent = s.ring.urgent
    ∧ s.ring.routine <+: t.ring.routine
    ∧ t.ring.receiver = .inBreak (t.now - 11 * s.ring.rate.bitTicks) false
    ∧ (s.ring.receiver = .lowAtReset → s.now ≤ 11 * s.ring.rate.bitTicks → t.ring.receiver = .inBreak 0 false)
    ∧ (s.ring.assembler.isReceiving = true →
        t.ring.counters = { s.ring.counters with truncated := s.ring.counters.truncated + 1 }
          ∧ t.latch .ringError = true)
    ∧ (s.ring.assembler.isReceiving = false → t.ring.counters = s.ring.counters ∧ t.mgmt = s.mgmt)
    ∧ ((∀ since base required, s.ring.tx ≠ .relay since base required) →
        t.ring.tx = s.ring.tx ∧ t.ring.relayPending = some (s.ring.relayPending.getD 0))
    ∧ (∀ since base required, s.ring.tx = .relay since base required →
        t.ring.tx = .relay since (t.now - since) required ∧ t.ring.relayPending = s.ring.relayPending)

/-- A break ends as a resync, becomes a long break with a line reset of the whole part, or ends after one (R5, R6, R7, R24,
R85, R99, R107, R169, R192; log 9 for a second break during a relay, log 10 for the clock at the three moments, log 15 for
the order of the blocks' shares). -/
def Obligations.BreaksEndAndLineReset : Prop :=
  (∀ (s : State) (start len : Nat), Awake s → s.ring.receiver = .inBreak start false → len < 160000 →
    ∃ t, Taken (.resync len) s t
      ∧ t = { s with
          now := max s.now (start + len)
          ring := { s.ring with
            receiver := .waitEdge, tx := t.ring.tx, relayPending := t.ring.relayPending,
            counters.resyncs := s.ring.counters.resyncs + 1 } }
      ∧ (∀ since base required, s.ring.tx = .relay since base required →
          t.ring.tx = .relay since base (max required (base + len)) ∧ t.ring.relayPending = s.ring.relayPending)
      ∧ ((∀ since base required, s.ring.tx ≠ .relay since base required) →
          t.ring.tx = s.ring.tx ∧ t.ring.relayPending = s.ring.relayPending.map (max len)))
  ∧ (∀ (s : State) (start len : Nat), Awake s → s.ring.receiver = .inBreak start true →
    ∃ t, Taken (.longBreakEnd len) s t
      ∧ t = { s with
          now := max s.now (start + len)
          ring := { s.ring with receiver := .waitEdge, tx := t.ring.tx, relayPending := t.ring.relayPending } }
      ∧ (∀ since base required, s.ring.tx = .relay since base required →
          t.ring.tx = .relay since base (max required (base + len)) ∧ t.ring.relayPending = s.ring.relayPending)
      ∧ ((∀ since base required, s.ring.tx ≠ .relay since base required) →
          t.ring.tx = s.ring.tx ∧ t.ring.relayPending = s.ring.relayPending.map (max len)))
  ∧ (∀ (s : State) (start : Nat), Awake s → s.ring.receiver = .inBreak start false →
    ∃ t, Taken .longBreak s t
      ∧ LineResetDone []
          { s with
            now := max s.now (start + 160000)
            ring.receiver := .inBreak start true
            ring.counters.longBreaks := s.ring.counters.longBreaks + 1 } t)

/-- The transmitter's states: GAP to READY, SENDING to GAP with its counter, RELAY to GAP (R22, R23, R7), each at its due
time or later (log 2). In READY the arbiter takes a pending relay, then the heads of the Forward, Urgent and Routine
Queues, and in any other state nothing (R22); a chosen own frame is built with its check (R23), a NOTICE with the latches
and line state as they stand (R21). Ring Out is low in a relay, high in GAP, in READY and while RESET is low (R7, R25), and
in SENDING carries the frame's characters back to back, mark bit 1 in the first and 0 in the rest (R23). -/
def Obligations.TransmitterCyclesAndArbiterChooses : Prop :=
  (∀ (s : State) (since : Ticks), Awake s → s.ring.tx = .gap since →
    Taken .gap s { s with now := max s.now (since + 2 * (11 * s.ring.rate.bitTicks)), ring.tx := .ready })
  ∧ (∀ (s : State) (bytes : List Byte) (own : Bool) (since : Ticks), Awake s → s.ring.tx = .sending bytes own since →
    Taken .frameSent s
      { s with
        now := max s.now (since + bytes.length * (11 * s.ring.rate.bitTicks))
        ring.tx := .gap (max s.now (since + bytes.length * (11 * s.ring.rate.bitTicks)))
        ring.counters.own := if own then s.ring.counters.own + 1 else s.ring.counters.own
        ring.counters.forwarded := if own then s.ring.counters.forwarded else s.ring.counters.forwarded + 1 })
  ∧ (∀ (s : State) (since base required : Ticks), Awake s → s.ring.tx = .relay since base required →
    s.ring.receiver.isInBreak = false →
    Taken .relayEnd s
      { s with
        now := max s.now (since + required)
        ring.tx := .gap (max s.now (since + required))
        ring.counters.relays := s.ring.counters.relays + 1 })
  ∧ (∀ s : State,
    (s.ring.tx ≠ .ready → arbitrate s = s)
    ∧ (s.ring.tx = .ready →
      (∀ len, s.ring.relayPending = some len →
        arbitrate s = { s with ring.relayPending := none, ring.tx := .relay s.now 0 len })
      ∧ (s.ring.relayPending = none →
        (∀ f rest, s.ring.forward = f :: rest →
          arbitrate s = { s with ring.forward := rest, ring.tx := .sending f false s.now })
        ∧ (s.ring.forward = [] →
          (∀ f rest, s.ring.urgent = f :: rest →
            arbitrate s = { s with
              ring.urgent := rest
              ring.tx := .sending (buildFrame f.dest s.mgmt.ownStation f.kind f.payload) true s.now })
          ∧ (s.ring.urgent = [] →
            (∀ f rest, s.ring.routine = .ready f :: rest →
              arbitrate s = { s with
                ring.routine := rest
                ring.tx := .sending (buildFrame f.dest s.mgmt.ownStation f.kind f.payload) true s.now
                mgmt.noticeRetryDue := s.mgmt.noticePending })
            ∧ (∀ rest, s.ring.routine = .notice :: rest →
              arbitrate s = { s with
                ring.routine := rest
                ring.tx := .sending (buildFrame 0 s.mgmt.ownStation 0x39
                  (leBytes 4 s.mgmt.latches.toNat ++ [if s.track.line = .run then 1 else 0])) true s.now
                mgmt.noticeRetryDue := s.mgmt.noticePending })
            ∧ (s.ring.routine = [] → arbitrate s = s))))))
  ∧ (∀ s : State,
    (s.resetLow = true ∨ s.ring.tx = .ready → s.ringOut = true)
    ∧ (∀ since, s.ring.tx = .gap since → s.ringOut = true)
    ∧ (∀ since base required, Awake s → s.ring.tx = .relay since base required → s.ringOut = false)
    ∧ (∀ bytes own since, s.ring.tx = .sending bytes own since →
      s.ringOutCharacters.length = bytes.length
      ∧ ∀ k b, bytes[k]? = some b → ∃ c : BitVec 11, s.ringOutCharacters[k]? = some c
        ∧ c.getLsbD 0 = false ∧ c.extractLsb' 1 8 = b ∧ c.getLsbD 9 = decide (k = 0) ∧ c.getLsbD 10 = true
        ∧ receiveRing ⟨c, c, c, false⟩ = .character b (decide (k = 0)) true false
        ∧ ∀ j d, j < 11 → d < s.ring.rate.bitTicks → s.now = since + (11 * k + j) * s.ring.rate.bitTicks + d →
            Awake s → s.ringOut = c.getLsbD j))

/-- A latch is set once and a NOTICE falls due when its mask is on: queued, merged or deferred (R191, R192). A REPLY is
queued whole or dropped and counted (R183, R21); in repeater-only mode it is dropped (R28). -/
def Obligations.RoutineQueueTakesNoticesAndReplies : Prop :=
  (∀ (l : EventLatch) (s : State), repeaterOnly s = false →
    let u : State := { s with mgmt.latches := s.mgmt.latches ||| (1#18 <<< l.number) }
    (s.latch l = true → raise l s = s)
    ∧ (s.latch l = false → s.mask l = false → raise l s = u)
    ∧ (s.latch l = false → s.mask l = true → (noticeWaits s || s.mgmt.noticePending) = true → raise l s = u)
    ∧ (s.latch l = false → s.mask l = true → noticeWaits s = false → s.mgmt.noticePending = false →
      (s.ring.routine.length < 8 → raise l s =
        { u with
          ring.routine := s.ring.routine ++ [.notice]
          mgmt.counters.noticesQueued := s.mgmt.counters.noticesQueued + 1 })
      ∧ (8 ≤ s.ring.routine.length → raise l s =
        { u with
          mgmt.noticePending := true
          mgmt.counters.noticeDeferrals := s.mgmt.counters.noticeDeferrals + 1 })))
  ∧ (∀ (dest kind : Byte) (a : Answer) (s : State),
    (repeaterOnly s = false → s.ring.routine.length < 8 →
      appendReply dest kind a s =
        { s with
          ring.routine := s.ring.routine ++
            [.ready ⟨.managementUnit, dest, 0x38, [kind, a.status.code, a.detail] ++ a.data⟩]
          mgmt.counters.repliesQueued := s.mgmt.counters.repliesQueued + 1 })
    ∧ ((repeaterOnly s = true ∨ 8 ≤ s.ring.routine.length) →
      appendReply dest kind a s =
        { s with mgmt.counters.repliesDropped := s.mgmt.counters.repliesDropped + 1 }))

/-! ## Pass Stage -/

/-- The tests of Table 2-1 in order (R27, R28, R29, R30, R32), and OVERRUN (R17). That an addressed frame is counted before
its consumer acts is the model's choice (log 29, DESIGN CHOICE). -/
def Obligations.PassStageDecides : Prop :=
  ∀ (s : State) (f : List Byte),
    (repeaterOnly s = true → passFrame f s = sendOn f s)
    ∧ (repeaterOnly s = false → frameSource f = s.mgmt.ownStation →
      passFrame f s = { s with pass.counters.orphans := s.pass.counters.orphans + 1 })
    ∧ (repeaterOnly s = false → frameSource f ≠ s.mgmt.ownStation → frameDest f = s.mgmt.ownStation →
      let u : State := { s with pass.counters.addressed := s.pass.counters.addressed + 1 }
      (frameKind f = 0x14 → frameLength f = 4 →
        passFrame f s =
          takeAck (byteAt (framePayload f) 0) (byteAt (framePayload f) 1) (byteAt (framePayload f) 2)
            (byteAt (framePayload f) 3) u)
      ∧ (frameKind f = 0x14 → frameLength f ≠ 4 →
        passFrame f s = { u with pass.counters.malformed := s.pass.counters.malformed + 1 })
      ∧ (isHandledKind (frameKind f) = false → frameSource f = 0 → passFrame f s = unknownKindEvent (frameKind f) u)
      ∧ (isHandledKind (frameKind f) = false → frameSource f ≠ 0 →
        passFrame f s = { u with pass.counters.unknownKind := s.pass.counters.unknownKind + 1 })
      ∧ (isHandledKind (frameKind f) = true → frameKind f ≠ 0x14 →
        passFrame f s = manageFrame (frameSource f) (frameKind f) (framePayload f) u))
    ∧ (repeaterOnly s = false → frameSource f ≠ s.mgmt.ownStation → frameDest f ≠ s.mgmt.ownStation →
      ruleFor s.pass.rules f = none → passFrame f s = sendOn f s)
    ∧ (s.ring.forward.length < 4 → sendOn f s = { s with ring.forward := s.ring.forward ++ [f] })
    ∧ (4 ≤ s.ring.forward.length →
      sendOn f s = raise .ringError { s with ring.counters.overrun := s.ring.counters.overrun + 1 })

/-- PASS sends a frame on unchanged and changes no pass counter; DROP keeps it from the ring and counts, and does nothing
else (R34). -/
def Obligations.PassAndDropRules : Prop :=
  ∀ (s : State) (f : List Byte), repeaterOnly s = false → frameSource f ≠ s.mgmt.ownStation →
    frameDest f ≠ s.mgmt.ownStation →
    (ruleFor s.pass.rules f = some .pass →
      passFrame f s = sendOn f s ∧ (passFrame f s).pass = s.pass
        ∧ (s.ring.forward.length < 4 → passFrame f s = { s with ring.forward := s.ring.forward ++ [f] }))
    ∧ (ruleFor s.pass.rules f = some .drop →
      passFrame f s = { s with pass.counters.drops := s.pass.counters.drops + 1 })

/-- SNOOP sends the frame on and takes a copy: a PRODUCT SELECT of length 2 reaches the Dose Regulator, where an unknown
code counts and raises UNKNOWN_PRODUCT and the active product's code does nothing (R35, R145). -/
def Obligations.SnoopTakesCopy : Prop :=
  ∀ (s : State) (f : List Byte), repeaterOnly s = false → frameSource f ≠ s.mgmt.ownStation →
    frameDest f ≠ s.mgmt.ownStation → ruleFor s.pass.rules f = some .snoop →
    let u : State := { s with pass.counters.snoops := s.pass.counters.snoops + 1 }
    let code := BitVec.ofNat 16 (leNat (framePayload f))
    (frameKind f ≠ 0x10 →
      passFrame f s = sendOn f { u with pass.counters.ignoredSnoops := s.pass.counters.ignoredSnoops + 1 })
    ∧ (frameKind f = 0x10 → frameLength f ≠ 2 →
      passFrame f s = sendOn f { u with pass.counters.malformed := s.pass.counters.malformed + 1 })
    ∧ (frameKind f = 0x10 → frameLength f = 2 → findProduct code s = none →
      passFrame f s = sendOn f (raise .unknownProduct
        { u with dose.counters.unknownProducts := s.dose.counters.unknownProducts + 1 }))
    ∧ (∀ p, frameKind f = 0x10 → frameLength f = 2 → findProduct code s = some p →
      (s.dose.active = some p → passFrame f s = sendOn f u)
      ∧ (s.dose.active ≠ some p → passFrame f s = sendOn f (productChange p u)))

/-- A frame under a TRIM rule: another kind is sent on, a malformed DOSE SET is sent on and counted, a well-formed one has
its pairs rewritten first to last, its check computed again, is counted once and sent on (R36, R37). One pair: the dose
becomes the base of its valve, a differing one being a dose change, and the pair goes out as base plus the trim lent; a pair
outside the valve count stays as received (R36, R148, R153, R154). -/
def Obligations.TrimRewritesPair : Prop :=
  (∀ p : List Byte, doseSetWellFormed p = true ↔
    (2 ≤ p.length ∧ 1 ≤ (byteAt p 1).toNat ∧ (byteAt p 1).toNat ≤ 16 ∧ p.length = 2 + 3 * (byteAt p 1).toNat))
  ∧ (∀ (s : State) (f : List Byte), repeaterOnly s = false → frameSource f ≠ s.mgmt.ownStation →
    frameDest f ≠ s.mgmt.ownStation → ruleFor s.pass.rules f = some .trim →
    (frameKind f ≠ 0x11 → passFrame f s = sendOn f s)
    ∧ (frameKind f = 0x11 → doseSetWellFormed (framePayload f) = false →
      passFrame f s = sendOn f { s with pass.counters.malformed := s.pass.counters.malformed + 1 })
    ∧ (frameKind f = 0x11 → doseSetWellFormed (framePayload f) = true →
      let p := framePayload f
      let r := rewritePairs (chunks 3 (byteAt p 1).toNat (p.drop 2)) s
      passFrame f s = sendOn (withCheck (f.take 4 ++ p.take 2 ++ r.1))
        { r.2 with pass := { s.pass with counters.rewrites := s.pass.counters.rewrites + 1 } }))
  ∧ (∀ s : State, rewritePairs [] s = ([], s))
  ∧ (∀ (s : State) (pair : List Byte) (rest : List (List Byte)),
    rewritePairs (pair :: rest) s =
      ((rewritePair pair s).1 ++ (rewritePairs rest (rewritePair pair s).2).1,
        (rewritePairs rest (rewritePair pair s).2).2))
  ∧ ∀ (s : State) (b lo hi : Byte),
    (ValveIn s b.toNat →
      let v := b.toNat
      let dose := lo.toNat + 256 * hi.toNat
      let r := rewritePair [b, lo, hi] s
      r.1 = b :: leBytes 2 (clamp 0 65535 ((dose : Int) + (s.valve v).lentTrim)).toNat
      ∧ ((s.valve v).base = dose → r.2 = s)
      ∧ ((s.valve v).base ≠ dose →
        r.2.valve v = { s.valve v with
          base := dose, generation := (s.valve v).generation + 1, window := [], lag := s.activeLag }
        ∧ (∀ w, 1 ≤ w → w ≠ v → r.2.valve w = s.valve w)
        ∧ r.2.track.queue = s.track.queue.map (fun x => if x.valve = v then { x with stale := true } else x)
        ∧ r.2.dose.counters = { s.dose.counters with
            baseChanges := s.dose.counters.baseChanges + 1, doseChanges := s.dose.counters.doseChanges + 1 }
        ∧ r.2 = { s with track.queue := r.2.track.queue, dose := { s.dose with
            valves := r.2.dose.valves, counters := r.2.dose.counters } }))
    ∧ (s.valveInCount b.toNat = false → rewritePair [b, lo, hi] s = ([b, lo, hi], s))

/-! ## Input Unit -/

/-- Table 3-2: what a change of a discrete pin does, and what the accepted falling edges and POCKET changes do: they act on
the accepted level only (R40, R51, R52, R53). An edge is accepted at its due time or later (log 2). -/
def Obligations.DiscreteInputsFilter : Prop :=
  (∀ (s : State) (i : Input) (level : Bool), Awake s →
    ((s.input.filterOf i).pin = level → Taken (.inputPinChange i level) s s)
    ∧ ((s.input.filterOf i).pin ≠ level →
      ((s.input.filterOf i).filter = .stable → (s.input.filterOf i).time ≠ 0 →
        Taken (.inputPinChange i level) s
          (modifyFilter i (fun f => { f with pin := level, filter := .changing s.now }) s))
      ∧ ((s.input.filterOf i).filter = .stable → (s.input.filterOf i).time = 0 →
        Taken (.inputPinChange i level) s
          (deliverEdge i level
            (modifyFilter i (fun f => { f with pin := level, accepted := level, filter := .stable }) s)))
      ∧ (∀ since, (s.input.filterOf i).filter = .changing since →
        Taken (.inputPinChange i level) s
          (modifyFilter i (fun f => { f with pin := level, filter := .stable })
            { s with input.counters := s.input.counters.glitch i }))))
  ∧ (∀ (s : State) (i : Input) (since : Ticks), Awake s → (s.input.filterOf i).filter = .changing since →
    (s.input.filterOf i).pin = false →
    Taken (.acceptedFallingEdge i) s
      { modifyFilter i (fun f => { f with accepted := false, filter := .stable }) s with
        now := max s.now (since + 8 * (s.input.filterOf i).time) })
  ∧ (∀ (s : State) (since : Ticks), Awake s → s.input.pocket.filter = .changing since →
    Taken .pocketChange s
      { s with
        now := max s.now (since + 8 * s.input.pocket.time)
        input.pocket.accepted := s.input.pocket.pin
        input.pocket.filter := .stable })

/-- A discharge advances the valve index by Table 3-4, counts, admits a record or overflows, and counts against its
valve's lag; nothing else changes (R47, R51, R64, R66, R151, R152; log 2 for the clock). -/
def Obligations.DischargeAdvancesAndAdmits : Prop :=
  ∀ (s : State) (since : Ticks), Awake s → s.input.discharge.filter = .changing since →
    s.input.discharge.pin = true → ∃ t, Taken .discharge s t
    ∧ t = { s with
        now := max s.now (since + 8 * s.input.discharge.time)
        ring.routine := t.ring.routine
        input.discharge.accepted := true
        input.discharge.filter := .stable
        input.index := t.input.index
        input.counters.discharges := s.input.counters.discharges + 1
        input.counters.cansPresent :=
          if s.input.pocket.accepted then s.input.counters.cansPresent + 1 else s.input.counters.cansPresent
        track := t.track
        dose.valves := t.dose.valves
        mgmt := t.mgmt }
    ∧ ∃ v, (s.input.index = .unknown → v = 0 ∧ t.input.index = .unknown)
      ∧ (s.input.index = .armed → v = 1 ∧ t.input.index = .atValve 1)
      ∧ (∀ w, s.input.index = .atValve w → w < s.dose.valveCount → v = w + 1 ∧ t.input.index = .atValve (w + 1))
      ∧ (∀ w, s.input.index = .atValve w → w = s.dose.valveCount → v = 1 ∧ t.input.index = .atValve 1)
      ∧ (ValveIn s v → t.valve v = { s.valve v with lag := (s.valve v).lag - 1 })
      ∧ (∀ w, 1 ≤ w → w ≠ v → t.valve w = s.valve w)
      ∧ (v = 0 → t.dose = s.dose)
      ∧ (t.track.counters.overflow = s.track.counters.overflow → t.ring = s.ring ∧ t.mgmt = s.mgmt)
      ∧ ((s.track.line = .idle ∨ s.input.pocket.accepted = false) → t.track = s.track)
      ∧ (s.track.line = .run → s.input.pocket.accepted = true → s.track.queue.length < 128 →
          t.track = { s.track with
            queue := insertByOrigin
              { serial := s.serialToGive, valve := v, product := s.dose.active, origin := s.input.count,
                eyeDistance := s.effectiveDistance.getD 0,
                eligible := s.valveInCount v && (s.valve v).state == .regulating && (s.valve v).lag == 0,
                stale := false, locked := s.valveInCount v && (s.valve v).state == .lockedOut,
                lot := none, print := .none, code := none, arrival := none, eye := .expected, weight := none,
                verdict := .pending, reasons := [], confirm := none, passed := {} } s.track.queue
            nextSerial := s.serialToGive + 1
            counters.admitted := s.track.counters.admitted + 1 })
      ∧ (s.track.line = .run → s.input.pocket.accepted = true → 128 ≤ s.track.queue.length →
          t.track = { s.track with counters.overflow := s.track.counters.overflow + 1 }
            ∧ t.latch .trackOverflow = true)

/-- HOME arms the valve index, and counts a slip away from the wrap (R48; log 2 for the clock). -/
def Obligations.HomeArmsIndex : Prop :=
  ∀ (s : State) (since : Ticks), Awake s → s.input.home.filter = .changing since → s.input.home.pin = true →
    let u : State := { s with
      now := max s.now (since + 8 * s.input.home.time)
      input.home.accepted := true
      input.home.filter := .stable
      input.counters.homeEdges := s.input.counters.homeEdges + 1 }
    (s.dose.valveCount = 0 → Taken .homeEdge s u)
    ∧ (s.dose.valveCount ≠ 0 → (∀ v, s.input.index = .atValve v → s.dose.valveCount ≤ v) →
      Taken .homeEdge s { u with input.index := .armed })
    ∧ (∀ v, s.input.index = .atValve v → v < s.dose.valveCount →
      Taken .homeEdge s (raise .indexSlip
        { u with input.index := .armed, input.counters.slips := s.input.counters.slips + 1 }))

/-- The encoder filter on the pair, and the legal steps with their position events (R43, R45, Table 3-3; log 2 for the
clock). -/
def Obligations.EncoderCountsSteps : Prop :=
  (∀ (s : State) (a b : Bool), Awake s → s.input.encoder.pins ≠ (a, b) →
    (s.input.encoder.accepted = (a, b) →
      Taken (.encoderPinChange a b) s
        { s with
          input.encoder.pins := (a, b)
          input.encoder.filter := .stable
          input.counters.glitchEncoder := s.input.counters.glitchEncoder + 1 })
    ∧ (s.input.encoder.accepted ≠ (a, b) → s.input.encoder.time ≠ 0 →
      Taken (.encoderPinChange a b) s
        { s with input.encoder.pins := (a, b), input.encoder.filter := .changing s.now })
    ∧ (s.input.encoder.accepted ≠ (a, b) → s.input.encoder.time = 0 →
      exec (.encoderPinChange a b) s =
        exec .encoderStep { s with input.encoder.pins := (a, b), input.encoder.filter := .changing s.now }))
  ∧ (∀ (s : State) (since : Ticks) (a b : Bool), Awake s → s.input.encoder.filter = .changing since →
    s.input.encoder.accepted = (a, b) →
    let u : State := { s with
      now := max s.now (since + 8 * s.input.encoder.time)
      input.encoder.accepted := s.input.encoder.pins
      input.encoder.filter := .stable }
    Taken .encoderStep s (acceptPair { s with now := max s.now (since + 8 * s.input.encoder.time) })
    ∧ (s.input.encoder.pins = (!b, a) →
      Taken .encoderStep s
        (positionEvent .forward { u with input.count := s.input.count + 1, input.direction := .forward }))
    ∧ (s.input.encoder.pins = (b, !a) →
      Taken .encoderStep s { u with input.count := s.input.count - 1, input.direction := .reverse }))

/-- An illegal step leaves the count, the direction and every record, counts an error, raises ENCODER_ERROR, and the
accepted pair takes the new value (R44); so does its acceptance by the hold timer, or at once at a filter time of 0 (R43).
That the clock then stands at the due time at least is the model's choice (log 2, DESIGN CHOICE). -/
def Obligations.IllegalStepCountsError : Prop :=
  (∀ (s : State) (a b : Bool), s.input.encoder.accepted = (a, b) → s.input.encoder.pins = (!a, !b) →
    acceptPair s = raise .encoderError
      { s with
        input.encoder.accepted := (!a, !b)
        input.encoder.filter := .stable
        input.counters.encoderErrors := s.input.counters.encoderErrors + 1 })
  ∧ (∀ (s : State) (since : Ticks) (a b : Bool), Awake s → s.input.encoder.filter = .changing since →
    s.input.encoder.accepted = (a, b) → s.input.encoder.pins = (!a, !b) →
    Taken .encoderStep s (raise .encoderError
      { s with
        now := max s.now (since + 8 * s.input.encoder.time)
        input.encoder.accepted := (!a, !b)
        input.encoder.filter := .stable
        input.counters.encoderErrors := s.input.counters.encoderErrors + 1 }))
  ∧ (∀ (s : State) (a b : Bool), Awake s → s.input.encoder.accepted = (a, b) → s.input.encoder.pins ≠ (!a, !b) →
    s.input.encoder.time = 0 →
    Taken (.encoderPinChange (!a) (!b)) s (raise .encoderError
      { s with
        input.encoder.pins := (!a, !b)
        input.encoder.accepted := (!a, !b)
        input.encoder.filter := .stable
        input.counters.encoderErrors := s.input.counters.encoderErrors + 1 }))

/-! ## Tracking Unit -/

/-- A matched arrival: its record, the learned list, the lost-run count and the window owner (R78, R69, R82, R94; log 2 for
the clock). An arrival together with an encoder step is the arrival at the count after the step, and the step's position
event or error follows it (R46, R79; log 21 for the form). -/
def Obligations.ArrivalMatchesOldestExpected : Prop :=
  (∀ (s : State) (eye pair : Ticks) (a b : Bool), Awake s → s.input.platformEye.filter = .changing eye →
    s.input.platformEye.pin = true → s.input.encoder.filter = .changing pair → s.input.encoder.accepted = (a, b) →
    let u : State := { s with
      now := max (max s.now (pair + 8 * s.input.encoder.time)) (eye + 8 * s.input.platformEye.time)
      input.encoder.accepted := s.input.encoder.pins
      input.encoder.filter := .stable }
    (s.input.encoder.pins = (!b, a) →
      ∃ t, Taken (.arrival false) { u with input.count := s.input.count + 1, input.direction := .forward } t
        ∧ Taken (.arrival true) s (positionEvent .forward t))
    ∧ (s.input.encoder.pins = (b, !a) →
      ∃ t, Taken (.arrival false) { u with input.count := s.input.count - 1, input.direction := .reverse } t
        ∧ Taken (.arrival true) s t)
    ∧ (s.input.encoder.pins = (!a, !b) →
      ∃ t, Taken (.arrival false) u t
        ∧ Taken (.arrival true) s (raise .encoderError
            { t with input.counters.encoderErrors := s.input.counters.encoderErrors + 1 })))
  ∧ ∀ (s : State) (since : Ticks) (r : CanRecord) (lin lout : Nat), Awake s →
    s.input.platformEye.filter = .changing since → s.input.platformEye.pin = true → s.track.line = .run →
    (s.track.queue.map CanRecord.serial).Nodup → matchingRecord s s.input.count = some r →
    s.lin = some lin → s.lout = some lout → lin < 16777216 →
    ∃ t, Taken (.arrival false) s t
      ∧ t = { s with
          now := max s.now (since + 8 * s.input.platformEye.time)
          ring.routine := t.ring.routine
          input.platformEye.accepted := true
          input.platformEye.filter := .stable
          input.counters.arrivals := s.input.counters.arrivals + 1
          track := t.track
          weigh := t.weigh
          verdict.lostRun := 0
          mgmt.counters := t.mgmt.counters }
      ∧ KeepsRecords
          (updateRecord r.serial (fun r => { r with eye := .arrived, arrival := some s.input.count }) s.track.queue)
          t.track.queue
      ∧ t.track.queue.map CanRecord.serial = s.track.queue.map CanRecord.serial
      ∧ t.track.learned = learn (s.input.count - r.origin).toNat s.track.learned
      ∧ t.track.owner = some
          ⟨r.serial, s.input.count + BitVec.ofNat 32 lin, s.input.count + BitVec.ofNat 32 lout, lin == 0⟩
      ∧ t.track.counters = s.track.counters ∧ t.track.nextSerial = s.track.nextSerial
      ∧ t.track.untracked = s.track.untracked ∧ t.track.distances = s.track.distances
      ∧ (lin ≠ 0 → ∃ overlap, t.weigh.slot = .pending r.serial overlap
          ∧ (overlap = true ↔ s.weigh.capture = none ∧ s.weigh.slot ≠ .none))
      ∧ t.weigh.capture = none

/-- An arrival that matches no record: a stray while the queue has room, otherwise an untracked stray (R80, R81); in IDLE
an arrival is only counted (R57, R53; log 2 for the clock). -/
def Obligations.UnmatchedArrivalIsStray : Prop :=
  (∀ (s : State) (since : Ticks), Awake s → s.input.platformEye.filter = .changing since →
    s.input.platformEye.pin = true → s.track.line = .idle →
    Taken (.arrival false) s
      { s with
        now := max s.now (since + 8 * s.input.platformEye.time)
        input.platformEye.accepted := true
        input.platformEye.filter := .stable
        input.counters.arrivals := s.input.counters.arrivals + 1 })
  ∧ ∀ (s : State) (since : Ticks), Awake s → s.input.platformEye.filter = .changing since →
    s.input.platformEye.pin = true → s.track.line = .run → matchingRecord s s.input.count = none →
    ∃ t, Taken (.arrival false) s t
      ∧ t = { s with
          now := max s.now (since + 8 * s.input.platformEye.time)
          ring.routine := t.ring.routine
          input.platformEye.accepted := true
          input.platformEye.filter := .stable
          input.counters.arrivals := s.input.counters.arrivals + 1
          track := t.track
          weigh := t.weigh
          verdict := t.verdict
          mgmt := t.mgmt }
      ∧ t.latch .strayCan = true
      ∧ t.track.learned = s.track.learned ∧ t.verdict.lostRun = s.verdict.lostRun
      ∧ (s.track.queue.length < 128 →
          t.track.queue.length = s.track.queue.length + 1
            ∧ t.track.counters = { s.track.counters with strays := s.track.counters.strays + 1 }
            ∧ t.track.untracked = s.track.untracked ∧ t.verdict = s.verdict
            ∧ (∃ o, t.track.owner = some o ∧ o.serial = s.serialToGive)
            ∧ (∀ lin lout, s.lin = some lin → s.lout = some lout → lin < 16777216 →
                t.track.owner = some ⟨s.serialToGive, s.input.count + BitVec.ofNat 32 lin,
                  s.input.count + BitVec.ofNat 32 lout, lin == 0⟩)
            ∧ t.track.nextSerial = s.serialToGive + 1
            ∧ KeepsRecords (insertByOrigin (strayRecord s.input.count s) s.track.queue) t.track.queue)
      ∧ (128 ≤ s.track.queue.length →
          KeepsRecords s.track.queue t.track.queue ∧ t.track.queue.length = s.track.queue.length
            ∧ t.track.counters = s.track.counters ∧ t.track.nextSerial = s.track.nextSerial
            ∧ t.track.untracked = s.track.untracked + 1 ∧ t.track.owner = none
            ∧ t.verdict.stopLatch = { s.verdict.stopLatch with strayNoRoom := true }
            ∧ t.stopOn = true)

/-- A forward position event in RUN takes the station points of every record, oldest first, and within a record in the
order of Table 4-5, each at its distance, marked passed by its own flag before it acts, once, when the count has reached it
and not before (R71 to R77); in IDLE and on reverse motion no point acts (R57, R71). -/
def Obligations.StationPointsActOnce : Prop :=
  (∀ (n : Serial) (passed : PointsPassed → Bool) (mark : PointsPassed → PointsPassed)
      (position : CanRecord → Option Count) (act : State → State) (s : State) (r : CanRecord) (p : Count),
    findRecord n s.track.queue = some r → position r = some p →
    (passed r.passed = true → takePoint n passed mark position act s = s)
    ∧ (2 ^ 31 ≤ (s.input.count - p).toNat → takePoint n passed mark position act s = s)
    ∧ (passed r.passed = false → (s.input.count - p).toNat < 2 ^ 31 →
      takePoint n passed mark position act s =
        act { s with track.queue := updateRecord n (fun r => { r with passed := mark r.passed }) s.track.queue }))
  ∧ (∀ s : State, positionEvent .reverse s = s)
  ∧ (∀ (d : Direction) (s : State), s.track.line = .idle → positionEvent d s = s)
  ∧ (∀ s : State, s.track.line = .run →
      positionEvent .forward s = (s.track.queue.map CanRecord.serial).foldl recordPoints s)
  ∧ (∀ (n : Serial) (passed : PointsPassed → Bool) (mark : PointsPassed → PointsPassed)
      (position : CanRecord → Option Count) (act : State → State) (s : State),
    (findRecord n s.track.queue = none → takePoint n passed mark position act s = s)
    ∧ (∀ r, findRecord n s.track.queue = some r → position r = none → takePoint n passed mark position act s = s))
  ∧ (∀ (s : State) (n : Serial),
    let s1 := takePoint n (fun p => p.print) (fun p => { p with print := true })
      (fun r => s.dc.map (fun dc => r.origin + BitVec.ofNat 32 dc)) (printPoint n) s
    let s2 := takePoint n (fun p => p.trigger) (fun p => { p with trigger := true })
      (fun r => s.dt.map (fun dt => r.origin + BitVec.ofNat 32 dt)) triggerPoint s1
    let s3 := takePoint n (fun p => p.readerClose) (fun p => { p with readerClose := true })
      (fun r => match s.dr, s.wr with
        | some dr, some wr => some (r.origin + BitVec.ofNat 32 (dr + wr))
        | _, _ => none) (readerClose n) s2
    let s4 := takePoint n (fun p => p.eyeClose) (fun p => { p with eyeClose := true })
      (fun r => s.wp.map (fun wp => r.origin + BitVec.ofNat 32 r.eyeDistance + BitVec.ofNat 32 wp)) (eyeClose n) s3
    let s5 := ownerPoints n s4
    let s6 := takePoint n (fun p => p.gate) (fun p => { p with gate := true })
      (fun r => match r.arrival, s.dg with
        | some a, some dg => some (a + BitVec.ofNat 32 dg)
        | _, _ => none) (gateDecision n) s5
    recordPoints s n = takePoint n (fun p => p.confirmClose) (fun p => { p with confirmClose := true })
      (fun r => match r.arrival, s.dk, s.wk with
        | some a, some dk, some wk => some (a + BitVec.ofNat 32 (dk + wk))
        | _, _, _ => none) (exitRecord n) s6)
  ∧ (∀ (s : State) (n : Serial),
    ((∀ o, s.track.owner = some o → o.serial ≠ n) → ownerPoints n s = s)
    ∧ (∀ o, s.track.owner = some o → o.serial = n →
      (o.opened = false → 2 ^ 31 ≤ (s.input.count - o.openPoint).toNat → ownerPoints n s = s)
      ∧ (o.opened = false → (s.input.count - o.openPoint).toNat < 2 ^ 31 →
        let u := engineOpen { s with track.owner := some { o with opened := true } }
        ownerPoints n s =
          if (s.input.count - o.closePoint).toNat < 2 ^ 31 then engineClose { u with track.owner := none } else u)
      ∧ (o.opened = true → ownerPoints n s =
          if (s.input.count - o.closePoint).toNat < 2 ^ 31 then engineClose { s with track.owner := none } else s)))

/-- An EXPECTED record at its eye window close is lost: removed, counted, latched, reported, told to the lost-run count
(R74, R178, R193); an ARRIVED one is left (R74); a reader window close writes NOREAD where no code result stands (R73). A
confirm window close judges verdict and confirm state (R176), removes the record, counts it and reports it (R77). A CAN
REPORT is made as the report mode says, queued, or dropped with REPORT_DROP (R193). -/
def Obligations.WindowClosesAct : Prop :=
  (∀ (s : State) (n : Serial) (r : CanRecord), findRecord n s.track.queue = some r →
    let u : State :=
      if r.confirm = none then
        { s with track.queue := updateRecord n (fun r => { r with confirm := some .notSeen }) s.track.queue }
      else s
    let c := confirmCheck n s
    (r.verdict = .accept → r.confirm = some .seen →
      c = { u with verdict.counters.confirmedAccepts := s.verdict.counters.confirmedAccepts + 1 })
    ∧ (r.verdict = .accept → r.confirm ≠ some .seen →
      c = raise .missingCan { u with verdict.counters.missing := s.verdict.counters.missing + 1 })
    ∧ (r.verdict = .reject → r.confirm ≠ some .seen →
      c = { u with verdict.counters.confirmedRejects := s.verdict.counters.confirmedRejects + 1 })
    ∧ (r.verdict = .reject → r.confirm = some .seen →
      let e : State := { u with
        verdict.stopLatch.escape := true
        verdict.counters.escapes := s.verdict.counters.escapes + 1
        verdict.counters.postEscape := s.verdict.counters.postEscape + 1 }
      c = if s.verdict.stopLatch.isEmpty then raise .stopSet e else e)
    ∧ exitRecord n s = canReport false { r with confirm := some (r.confirm.getD .notSeen) }
        { c with
          track.queue := removeRecord n s.track.queue
          track.counters.exited := s.track.counters.exited + 1 })
  ∧ (∀ (s : State) (lost : Bool) (r : CanRecord),
    let payload :=
      leBytes 2 r.serial.toNat ++ [BitVec.ofNat 8 r.valve]
        ++ leBytes 2 (match r.product with | some p => (s.product p).code.toNat | none => 0xFFFF)
        ++ leSigned 4 (match r.weight with | some w => if w.quality = .good then w.net else 0 | none => 0)
        ++ [codeResultCode r.code ||| ((if lost then 3#8 else match r.verdict with
              | .accept => 1#8 | .reject => 2#8 | .pending => 0#8) <<< 4)]
        ++ leBytes 2 (reasonBits r.reasons) ++ [recordFlags r]
    let made := s.mgmt.reportMode = .all ∨ (s.mgmt.reportMode = .rejects ∧ (lost = true ∨ r.verdict = .reject))
    (¬made → canReport lost r s = s)
    ∧ (made → repeaterOnly s = false → s.ring.routine.length < 8 → canReport lost r s =
      { s with
        ring.routine := s.ring.routine ++ [.ready ⟨.managementUnit, 0, 0x3A, payload⟩]
        mgmt.counters.reportsQueued := s.mgmt.counters.reportsQueued + 1 })
    ∧ (made → (repeaterOnly s = true ∨ 8 ≤ s.ring.routine.length) → canReport lost r s =
      raise .reportDrop { s with mgmt.counters.reportsDropped := s.mgmt.counters.reportsDropped + 1 }))
  ∧ ∀ (s : State) (n : Serial) (r : CanRecord), findRecord n s.track.queue = some r →
    (r.eye = .expected → eyeClose n s = lostRunLoss (canReport true { r with eye := .lost } (raise .lostCan
      { s with
        track.queue := removeRecord n s.track.queue
        track.counters.lost := s.track.counters.lost + 1 }))) ∧
    (r.eye = .expected → ∃ t, eyeClose n s = t
      ∧ t.track = { s.track with
          queue := removeRecord n s.track.queue, counters.lost := s.track.counters.lost + 1 }
      ∧ t.latch .lostCan = true ∧ t.verdict.lostRun = min 255 (s.verdict.lostRun + 1)
      ∧ (s.verdict.lostRunLimit = 0 → t.verdict.stopLatch = s.verdict.stopLatch)
      ∧ (0 < s.verdict.lostRunLimit → s.verdict.lostRunLimit ≤ min 255 (s.verdict.lostRun + 1) →
          t.verdict.stopLatch = { s.verdict.stopLatch with lostRun := true })
      ∧ t.weigh = s.weigh ∧ t.code = s.code ∧ t.dose = s.dose ∧ t.input = s.input ∧ t.pass = s.pass)
    ∧ (r.eye ≠ .expected → eyeClose n s = s)
    ∧ (r.code = none → ∃ r', findRecord n (readerClose n s).track.queue = some r'
        ∧ r' = { r with code := some .noread })
    ∧ (r.code ≠ none → findRecord n (readerClose n s).track.queue = some r)

/-- START moves IDLE to RUN when the five conditions of Table 4-2 hold, answers the first that fails, and changes nothing
in RUN (R58). -/
def Obligations.StartNeedsFiveConditions : Prop :=
  ∀ s : State, Listening s →
    (s.track.line = .run → Taken (.start 0) s (actionAnswer 1 .ok 0 (counted s)))
    ∧ (s.track.line = .idle →
      (s.dose.active = none → Taken (.start 0) s (actionAnswer 1 .notReady 1 (counted s)))
      ∧ (s.dose.active ≠ none → distancesValid s.track.distances = false →
        Taken (.start 0) s (actionAnswer 1 .notReady 2 (counted s)))
      ∧ (s.dose.active ≠ none → distancesValid s.track.distances = true → (s.mgmt.filler = 0 ∨ s.mgmt.coder = 0) →
        Taken (.start 0) s (actionAnswer 1 .notReady 3 (counted s)))
      ∧ (s.dose.active ≠ none → distancesValid s.track.distances = true → s.mgmt.filler ≠ 0 → s.mgmt.coder ≠ 0 →
        s.dose.valveCount = 0 → Taken (.start 0) s (actionAnswer 1 .notReady 4 (counted s)))
      ∧ (s.dose.active ≠ none → distancesValid s.track.distances = true → s.mgmt.filler ≠ 0 → s.mgmt.coder ≠ 0 →
        s.dose.valveCount ≠ 0 → s.weigh.factor = 0 →
        Taken (.start 0) s (actionAnswer 1 .notReady 5 (counted s)))
      ∧ (s.dose.active ≠ none → distancesValid s.track.distances = true → s.mgmt.filler ≠ 0 → s.mgmt.coder ≠ 0 →
        s.dose.valveCount ≠ 0 → s.weigh.factor ≠ 0 →
        Taken (.start 0) s
          (actionAnswer 1 .ok 0 (raise .lineRunOn { counted s with track.line := .run }))))

/-- STOP in RUN abandons the window, flushes the queue with its counter and makes the line IDLE; in IDLE it changes
nothing (R59, R84, R99). LINE RESET resets every block and its REPLY is the first frame behind the emptied queues (R189,
R192). -/
def Obligations.StopAndLineReset : Prop :=
  (∀ s : State, Listening s → s.track.line = .idle → Taken (.stop 0) s (actionAnswer 2 .ok 0 (counted s)))
  ∧ (∀ s : State, Listening s → s.track.line = .run →
      Taken (.stop 0) s (actionAnswer 2 .ok 0 (raise .lineRunOff
        { counted s with
          track.line := .idle
          track.queue := []
          track.owner := none
          track.counters.flushed := s.track.counters.flushed + BitVec.ofNat 32 s.track.queue.length
          weigh.slot := .none
          weigh.counters.abandonedWindows :=
            match s.weigh.slot with
            | .opened _ => s.weigh.counters.abandonedWindows + 1
            | _ => s.weigh.counters.abandonedWindows })))
  ∧ (∀ s : State, Listening s → ∃ t, Taken (.lineResetAction 0) s t ∧ LineResetDone [.ready ⟨.managementUnit, 0, 0x38, [0x32, 0, 0, 3]⟩] (counted s) t
      ∧ t.ring.routine.head? = some (.ready ⟨.managementUnit, 0, 0x38, [0x32, 0, 0, 3]⟩)
      ∧ t.mgmt.counters.requests = s.mgmt.counters.requests + 1)

/-! ## Weighing Engine -/

/-- A sample frame: counters, the loss timer, SAMPLE LOSS cleared by an unfaulted sample (R89, R90, R91), and its delivery:
to an OPEN window's settle detector and sum (R100), the synthetic sample of a test window (R113), a capture that completes
at 256 samples (R106), or zero tracking, its blocks and its run of 64 (R108, R109, R110). -/
def Obligations.SampleFrameDelivers : Prop :=
  (∀ (b : SampleBlock) (x : Int),
    (b.count = 0 → b.add x = ⟨1, x, x, x⟩)
    ∧ (b.count ≠ 0 → b.add x = ⟨b.count + 1, min b.least x, max b.most x, b.sum + x⟩))
  ∧ (∀ (w : OpenWindow) (x : Int),
    (w.settled = true → w.samples < 1024 → w.take x = { w with samples := w.samples + 1, sum := w.sum + x })
    ∧ (w.settled = true → 1024 ≤ w.samples → w.take x = w)
    ∧ (w.settled = false →
      let b := w.block.add x
      (b.count < w.blockSize → w.take x = { w with block := b })
      ∧ (w.blockSize ≤ b.count → b.most - b.least ≤ w.settleBand →
        w.take x = { w with block := ⟨0, 0, 0, 0⟩, settled := true, samples := b.count, sum := b.sum })
      ∧ (w.blockSize ≤ b.count → (w.settleBand : Int) < b.most - b.least →
        w.take x = { w with block := ⟨0, 0, 0, 0⟩ })))
  ∧ ∀ (s : State) (w : BitVec 32), Awake s →
    let faulted := w.getLsbD 7 || w.getLsbD 6
    let x := (w.extractLsb' 8 24).toInt
    let counts : WeighingCounters := { s.weigh.counters with
      frames := s.weigh.counters.frames + 1
      faulted := if faulted then s.weigh.counters.faulted + 1 else s.weigh.counters.faulted
      short := match s.weigh.receiver with
        | .taking (_ :: _) => s.weigh.counters.short + 1
        | _ => s.weigh.counters.short }
    ∃ t, Taken (.sampleFrame (.frame w)) s t
      ∧ t.weigh.counters.frames = s.weigh.counters.frames + 1
      ∧ t.weigh.counters.faulted = (if faulted then s.weigh.counters.faulted + 1 else s.weigh.counters.faulted)
      ∧ t.weigh.lossTimer = some s.now ∧ t.weigh.receiver = .idle
      ∧ t.weigh.sampleLoss = (s.weigh.sampleLoss && faulted)
      ∧ (s.weigh.sampleLoss = true → faulted = false → t.latch .sampleLossOff = true)
      ∧ t = { s with
          ring.routine := t.ring.routine
          weigh := { s.weigh with
            receiver := .idle, sampleLoss := t.weigh.sampleLoss, lossTimer := some s.now, slot := t.weigh.slot,
            zero := t.weigh.zero, capture := t.weigh.capture, block := t.weigh.block, run := t.weigh.run,
            counters := t.weigh.counters }
          mgmt.latches := t.mgmt.latches
          mgmt.noticePending := t.mgmt.noticePending
          mgmt.counters := t.mgmt.counters }
      ∧ (faulted = true → t.weigh.zero = s.weigh.zero ∧ t.weigh.capture = s.weigh.capture)
      ∧ (faulted = true → t.weigh.block = ⟨0, 0, 0, 0⟩ ∧ t.weigh.run = ⟨0, 0⟩ ∧ t.weigh.counters = counts)
      ∧ ((∀ o, s.weigh.slot ≠ .opened o) → t.weigh.slot = s.weigh.slot)
      ∧ (∀ o, s.weigh.slot = .opened o →
          t.weigh.zero = s.weigh.zero ∧ t.weigh.capture = s.weigh.capture ∧ t.weigh.counters = counts
          ∧ (faulted = false → t.weigh.block = s.weigh.block ∧ t.weigh.run = s.weigh.run)
          ∧ (o.test = none → faulted = true → t.weigh.slot = .opened { o with fault := true })
          ∧ (o.test = none → faulted = false → t.weigh.slot = .opened (o.take x))
          ∧ (∀ k, o.test = some k →
              let synthetic := clamp (-8388608) 8388607
                (s.weigh.zero + (k.weight * 1048576).tdiv s.weigh.factor + k.ripple.getD k.index 0)
              t.weigh.slot = .opened
                { o.take synthetic with test := some { k with index := (k.index + 1) % 4 } }))
      ∧ (∀ a, faulted = false → s.weigh.slot = .none → s.weigh.capture = some a → a.count < 255 →
          t.weigh.capture = some ⟨a.count + 1, a.sum + x⟩ ∧ t.weigh.zero = s.weigh.zero
            ∧ t.weigh.block = s.weigh.block ∧ t.weigh.run = s.weigh.run ∧ t.weigh.counters = counts)
      ∧ (∀ a, faulted = false → s.weigh.slot = .none → s.weigh.capture = some a → a.count = 255 →
          t.weigh.capture = none ∧ t.weigh.zero = (a.sum + x).tdiv 256
            ∧ t.weigh.counters = { counts with captures := s.weigh.counters.captures + 1 }
            ∧ t.weigh.block = ⟨0, 0, 0, 0⟩ ∧ t.weigh.run = ⟨0, 0⟩
            ∧ (s.weigh.sampleLoss = false → repeaterOnly s = false → s.ring.routine.length < 8 →
                t.ring.routine = s.ring.routine ++ [.ready ⟨.managementUnit, 0, 0x38, [0x32, 0, 0, 5]⟩]))
      ∧ (faulted = false → (∀ o, s.weigh.slot ≠ .opened o) → s.weigh.capture = none →
          t.weigh.capture = none
          ∧ ((s.weigh.zeroTracking = false ∨ s.weigh.testMode = true ∨ s.weigh.slot ≠ .none) →
              t.weigh.zero = s.weigh.zero ∧ t.weigh.block = s.weigh.block ∧ t.weigh.run = s.weigh.run
                ∧ t.weigh.counters = counts)
          ∧ (s.weigh.zeroTracking = true → s.weigh.testMode = false → s.weigh.slot = .none →
              let b := s.weigh.block.add x
              (b.count < s.weigh.blockSize →
                t.weigh.zero = s.weigh.zero ∧ t.weigh.block = b ∧ t.weigh.run = s.weigh.run
                  ∧ t.weigh.counters = counts)
              ∧ (s.weigh.blockSize ≤ b.count →
                t.weigh.block = ⟨0, 0, 0, 0⟩
                ∧ ((s.weigh.settleBand : Int) < b.most - b.least →
                    t.weigh.zero = s.weigh.zero ∧ t.weigh.run = ⟨0, 0⟩ ∧ t.weigh.counters = counts)
                ∧ (b.most - b.least ≤ s.weigh.settleBand → s.weigh.run.blocks < 63 →
                    t.weigh.zero = s.weigh.zero
                      ∧ t.weigh.run = ⟨s.weigh.run.blocks + 1, s.weigh.run.sum + b.sum⟩ ∧ t.weigh.counters = counts)
                ∧ (b.most - b.least ≤ s.weigh.settleBand → 63 ≤ s.weigh.run.blocks →
                    let difference :=
                      (s.weigh.run.sum + b.sum).tdiv ((64 * s.weigh.blockSize : Nat) : Int) - s.weigh.zero
                    t.weigh.run = ⟨0, 0⟩
                    ∧ (difference.natAbs ≤ s.weigh.zeroBand →
                        t.weigh.zero = s.weigh.zero + difference.tdiv 4
                          ∧ t.weigh.counters = { counts with adjustments := s.weigh.counters.adjustments + 1 })
                    ∧ (s.weigh.zeroBand < difference.natAbs →
                        t.weigh.zero = s.weigh.zero ∧ t.latch .zeroDrift = true
                          ∧ t.weigh.counters = { counts with drifts := s.weigh.counters.drifts + 1 })))))

/-- The sample port's receiver: SMP SYNC begins a frame, and makes one short that is not complete; SMP CLK takes a bit, the
32nd completing the frame, the first its most significant (R89); and the expiry of the loss timer (R91, R100, R110; log 2
for the clock). That the row SAMPLE_FRAME has these forms is log 20. -/
def Obligations.ShortFrameAndSampleLoss : Prop :=
  (∀ s : State, Awake s → s.weigh.receiver = .idle →
    Taken .shortFrame s s ∧ Taken (.sampleFrame .sync) s { s with weigh.receiver := .taking [] }
      ∧ ∀ d, Taken (.sampleFrame (.clk d)) s s)
  ∧ (∀ (s : State) (bits : List Bool), Awake s → s.weigh.receiver = .taking bits →
    Taken .shortFrame s
      { s with weigh.receiver := .taking [], weigh.counters.short := s.weigh.counters.short + 1 }
    ∧ Taken (.sampleFrame .sync) s
      { s with weigh.receiver := .taking [], weigh.counters.short := s.weigh.counters.short + 1 }
    ∧ (bits.length < 31 → ∀ d, Taken (.sampleFrame (.clk d)) s { s with weigh.receiver := .taking (bits ++ [d]) })
    ∧ (bits.length = 31 → ∀ (d : Bool) (w : BitVec 32),
        (∀ i, i < 32 → (bits ++ [d])[i]? = some (w.getLsbD (31 - i))) →
        exec (.sampleFrame (.clk d)) s = exec (.sampleFrame (.frame w)) { s with weigh.receiver := .idle }))
  ∧ (∀ (s : State) (since : Ticks), Awake s → s.weigh.lossTimer = some since → 0 < s.weigh.sampleRate →
    let u : State := { s with
      now := max s.now (since + (4 * 8000000 + (s.weigh.sampleRate - 1)) / s.weigh.sampleRate)
      weigh.lossTimer := none }
    (s.weigh.sampleLoss = true → Taken .sampleLoss s u)
    ∧ (s.weigh.sampleLoss = false →
      Taken .sampleLoss s (raise .sampleLossOn
        { u with
          weigh.sampleLoss := true
          weigh.counters.losses := s.weigh.counters.losses + 1
          weigh.block := SampleBlock.empty
          weigh.run := TrackingRun.empty
          weigh.slot := match s.weigh.slot with
            | .opened w => .opened (if w.test.isNone then { w with fault := true } else w)
            | x => x })))

/-- ZERO is refused in test mode, in CAPTURE and with a window in the slot, else starts a capture with its reply deferred
(R105); TEST ON and TEST OFF (R112). -/
def Obligations.ZeroAndTestMode : Prop :=
  ∀ s : State, Listening s →
    (s.weigh.testMode = true → Taken (.zero 0) s (actionAnswer 5 .inUse 0 (counted s)))
    ∧ (s.weigh.testMode = false → (s.weigh.capture ≠ none ∨ s.weigh.slot ≠ .none) →
      Taken (.zero 0) s (actionAnswer 5 .busy 0 (counted s)))
    ∧ (s.weigh.testMode = false → s.weigh.capture = none → s.weigh.slot = .none →
      Taken (.zero 0) s
        { counted s with
          weigh.capture := some ⟨0, 0⟩, weigh.block := SampleBlock.empty, weigh.run := TrackingRun.empty })
    ∧ (s.weigh.testMode = true → Taken (.testOn 0) s (actionAnswer 10 .ok 0 (counted s)))
    ∧ (s.weigh.testMode = false → s.weigh.capture ≠ none →
      Taken (.testOn 0) s (actionAnswer 10 .busy 0 (counted s)))
    ∧ (s.weigh.testMode = false → s.weigh.capture = none → s.weigh.factor = 0 →
      Taken (.testOn 0) s (actionAnswer 10 .notReady 5 (counted s)))
    ∧ (s.weigh.testMode = false → s.weigh.capture = none → s.weigh.factor ≠ 0 →
      Taken (.testOn 0) s (actionAnswer 10 .ok 0
        { counted s with
          weigh.testMode := true
          weigh.test.pointer := 0
          weigh.block := SampleBlock.empty
          weigh.run := TrackingRun.empty }))
    ∧ Taken (.testOff 0) s (actionAnswer 11 .ok 0 { counted s with weigh.testMode := false })

/-- A window opens with its settings and, in test mode, its test weight (R95, R113); its close writes one weight result:
quality by R101, the net of R102 held to −100000 to 999999 cg for GOOD and 0 for any other quality, the number of samples
and the test flag, and counts it (R96, R101, R104). A window that ends at once is OVERLAP or SAMPLE_FAULT (R97). An arrival
places a PENDING window, ending an earlier one or abandoning a capture with its deferred REPLY (R94, R107), and an
untracked can does the same without a new window (R98); each ends the zero-tracking run (R110). -/
def Obligations.WindowCloseWritesResult : Prop :=
  (∀ s : State,
    ((∀ n overlap, s.weigh.slot ≠ .pending n overlap) → engineOpen s = s)
    ∧ (∀ n overlap, s.weigh.slot = .pending n overlap →
      let step := s.weigh.testMode && s.weigh.test.mode == .step
      engineOpen s = { s with
        weigh.slot := .opened
          { serial := n, overlap := overlap, blockSize := s.weigh.blockSize, settleBand := s.weigh.settleBand,
            block := ⟨0, 0, 0, 0⟩, settled := false, samples := 0, sum := 0,
            fault := s.weigh.sampleLoss && !s.weigh.testMode,
            test :=
              if s.weigh.testMode then
                some ⟨s.weigh.test.weights.getD (if step then s.weigh.test.pointer else 0) 0, s.weigh.test.ripple, 0⟩
              else none }
        weigh.test.pointer :=
          if step then (if s.weigh.test.pointer + 1 < s.weigh.test.count then s.weigh.test.pointer + 1 else 0)
          else s.weigh.test.pointer }))
  ∧ (∀ s : State,
    (s.weigh.slot = .none → endWindowAtOnce s = s)
    ∧ (∀ n overlap, s.weigh.slot = .pending n overlap →
      let c := s.weigh.counters
      let q : Quality := if s.weigh.sampleLoss then .sampleFault else .overlap
      endWindowAtOnce s = { s with
        track.queue := updateRecord n
          (fun r => if r.weight = none then { r with weight := some ⟨0, 0, q, false⟩ } else r) s.track.queue
        weigh.slot := .none
        weigh.counters.sampleFault := if s.weigh.sampleLoss then c.sampleFault + 1 else c.sampleFault
        weigh.counters.overlap := if s.weigh.sampleLoss then c.overlap else c.overlap + 1 })
    ∧ (∀ w, s.weigh.slot = .opened w →
      let c := s.weigh.counters
      let q : Quality := if w.fault then .sampleFault else .overlap
      endWindowAtOnce s = { s with
        track.queue := updateRecord w.serial
          (fun r => if r.weight = none then { r with weight := some ⟨0, w.samples, q, w.test.isSome⟩ } else r)
          s.track.queue
        weigh.slot := .none
        weigh.counters.test := if w.test.isSome then c.test + 1 else c.test
        weigh.counters.sampleFault := if w.fault then c.sampleFault + 1 else c.sampleFault
        weigh.counters.overlap := if w.fault then c.overlap else c.overlap + 1 }))
  ∧ (∀ (s : State) (n : Serial),
    (∀ a, s.weigh.capture = some a →
      let u : State := { s with
        weigh.capture := none
        weigh.block := ⟨0, 0, 0, 0⟩
        weigh.run := ⟨0, 0⟩
        weigh.counters.capturesAbandoned := s.weigh.counters.capturesAbandoned + 1 }
      engineArrival n s =
          appendReply 0 0x32 ⟨.zeroAbandoned, 0, [5]⟩ { u with weigh.slot := .pending n false }
        ∧ engineUntracked s = appendReply 0 0x32 ⟨.zeroAbandoned, 0, [5]⟩ u)
    ∧ (s.weigh.capture = none →
      engineUntracked s = { endWindowAtOnce s with weigh.block := ⟨0, 0, 0, 0⟩, weigh.run := ⟨0, 0⟩ }
      ∧ engineArrival n s = { endWindowAtOnce s with
          weigh.slot := .pending n (decide (s.weigh.slot ≠ .none))
          weigh.block := ⟨0, 0, 0, 0⟩
          weigh.run := ⟨0, 0⟩ }))
  ∧ ∀ (s : State) (w : OpenWindow) (r : CanRecord), s.weigh.slot = .opened w →
    findRecord w.serial s.track.queue = some r → r.weight = none →
    let q : Quality :=
      if w.fault then .sampleFault else if w.overlap then .overlap else if w.settled then .good else .unsettled
    let net : Int :=
      if q = .good then
        (((w.sum.tdiv w.samples - s.weigh.zero) * s.weigh.factor).tdiv 1048576
          - (match r.product with | some p => ((s.product p).tare.toNat : Int) | none => 0))
      else 0
    let c := s.weigh.counters
    engineClose s = { s with
      track.queue := (engineClose s).track.queue
      weigh.slot := .none
      weigh.block := ⟨0, 0, 0, 0⟩
      weigh.run := ⟨0, 0⟩
      weigh.counters := { c with
        test := if w.test.isSome then c.test + 1 else c.test
        good := if q = .good then c.good + 1 else c.good
        unsettled := if q = .unsettled then c.unsettled + 1 else c.unsettled
        overlap := if q = .overlap then c.overlap + 1 else c.overlap
        sampleFault := if q = .sampleFault then c.sampleFault + 1 else c.sampleFault
        clamps := if net < -100000 ∨ 999999 < net then c.clamps + 1 else c.clamps } }
    ∧ ∃ r', findRecord w.serial (engineClose s).track.queue = some r'
      ∧ r' = { r with weight := some ⟨clamp (-100000) 999999 net, w.samples, q, w.test.isSome⟩ }
      ∧ (engineClose s).weigh.slot = .none

/-! ## Code Unit -/

/-- Position 16 of every code text is the check character of positions 1 to 15: values 0 to 9 for digits and 10 to 35 for
letters, added modulo 36; validation uses the same computation; and a change of one of the 15 characters to another
digit or letter changes it (R119). -/
def Obligations.CheckCharacterCatchesChanges : Prop :=
  (∀ (code valve : Nat) (lot : List Byte) (serial : Serial), ∃ body, codeText code lot valve serial
      = body ++ [checkChar body] ∧ (lot.length = 6 → body.length = 15))
  ∧ (∀ d : Nat, d ≤ 9 → charValue (BitVec.ofNat 8 (0x30 + d)) = d ∧ valueChar d = BitVec.ofNat 8 (0x30 + d))
  ∧ (∀ d : Nat, d ≤ 25 →
      charValue (BitVec.ofNat 8 (0x41 + d)) = 10 + d ∧ valueChar (10 + d) = BitVec.ofNat 8 (0x41 + d))
  ∧ (∀ cs : List Byte, checkChar cs = valueChar ((cs.map charValue).sum % 36))
  ∧ (∀ t : List Byte, t.length = 16 → classesHold t = true →
      (validateRead {} t = .wellFormed ↔ byteAt t 15 = checkChar (t.take 15))
        ∧ (byteAt t 15 ≠ checkChar (t.take 15) → validateRead {} t = .badcode .check))
  ∧ (∀ (pre post : List Byte) (a b : Byte), isCodeChar a = true → isCodeChar b = true → a ≠ b →
      checkChar (pre ++ a :: post) ≠ checkChar (pre ++ b :: post))

/-- The print point copies the lot, composes the code and appends a PRINT frame, or marks the print skipped (R118, R121,
R122). The trigger point sends the trigger, or drops it while the port is OFF, a trigger is SENDING or a reception is in
progress (R128); and a trigger ends, at its due time or later (R129; log 2). While it
is SENDING the part drives CODE with 0x54 in the port format, and at other times releases it (R124, R129). -/
def Obligations.PrintAndTriggerPoints : Prop :=
  (∀ (s : State) (n : Serial) (r : CanRecord), repeaterOnly s = false → findRecord n s.track.queue = some r →
    let f : OwnFrame := ⟨.codeUnit, s.mgmt.coder, 0x20,
      leBytes 2 r.serial.toNat ++ codeText (recordCode s r) s.code.lot r.valve r.serial⟩
    (s.ring.urgent.length < 8 → printPoint n s =
      { s with
        ring.urgent := s.ring.urgent ++ [f]
        track.queue := updateRecord n (fun r => { r with lot := some s.code.lot, print := .requested }) s.track.queue
        code.counters.printsRequested := s.code.counters.printsRequested + 1 })
    ∧ (8 ≤ s.ring.urgent.length → printPoint n s =
      { s with
        track.queue := updateRecord n (fun r => { r with lot := some s.code.lot, print := .skipped }) s.track.queue
        code.counters.printsSkipped := s.code.counters.printsSkipped + 1 }))
  ∧ (∀ s : State,
    (s.code.enable = true → s.code.sending = none → s.code.readState ≠ .receiving → s.code.readState ≠ .inBreak →
      s.code.underWay = false → triggerPoint s =
        { s with
          code.sending := some ⟨0x54, s.now⟩
          code.idleTimer := none
          code.lowSince := none
          code.counters.triggersSent := s.code.counters.triggersSent + 1 })
    ∧ ((s.code.enable = false ∨ s.code.sending ≠ none ∨ s.code.readState = .receiving ∨ s.code.readState = .inBreak
        ∨ s.code.underWay = true) →
      triggerPoint s = { s with code.counters.triggersDropped := s.code.counters.triggersDropped + 1 }))
  ∧ (∀ (s : State) (data : Byte) (since : Ticks) (high : Bool), Awake s → s.code.sending = some ⟨data, since⟩ →
    0 < s.code.rate →
    let due := max s.now (since + (10 * 8000000 + (s.code.rate - 1)) / s.code.rate)
    (high = true → Taken (.triggerSent high) s
      { s with now := due, code.sending := none, code.lineHigh := true, code.readState := .ready })
    ∧ (high = false → Taken (.triggerSent high) s
      { s with
        now := due
        code.sending := none
        code.lineHigh := false
        code.lowSince := some due
        code.readState := .waitIdle }))
  ∧ (∀ d : Byte,
    let a := codeCharacter .eightN1 d
    let b := codeCharacter .sevenE1 d
    a.getLsbD 0 = false ∧ a.extractLsb' 1 8 = d ∧ a.getLsbD 9 = true
      ∧ b.getLsbD 0 = false ∧ b.extractLsb' 1 7 = d.extractLsb' 0 7 ∧ onesBelow 9 b % 2 = 0 ∧ b.getLsbD 9 = true)
  ∧ (codeCharacter .sevenE1 0x54).getLsbD 8 = true
  ∧ (∀ s : State,
    ((s.resetLow = true ∨ s.code.sending = none) → s.codeOut = true)
    ∧ (∀ (data : Byte) (since : Ticks) (k : Nat), Awake s → s.code.sending = some ⟨data, since⟩ → k < 10 →
        k * 8000000 ≤ (s.now - since) * s.code.rate → (s.now - since) * s.code.rate < (k + 1) * 8000000 →
        s.codeOut = (codeCharacter s.code.format data).getLsbD k))

/-- A character on the code port: its falling edge, its delivery by read state, its noise, parity and framing marks
(R124, R125, R126, R130). The samples stand in the command (log 11), and the noise of a false start or of a break is not
counted (log 18, DEDUCED). That a sound character leaves the line high and starts the idle timer whatever the level at the
end of its stop bit period is the model's choice (log 32). -/
def Obligations.CodeCharactersFramed : Prop :=
  ∀ s : State, Awake s → s.code.readState ≠ .off → s.code.readState ≠ .inBreak → s.code.sending = none →
    s.code.lineHigh = true →
    Taken (.codeCharacter .falls) s { s with code.underWay := true }
    ∧ (∀ c : CodeSamples, receiveCode s.code.format c = .falseStart →
        Taken (.codeCharacter (.ends c)) s { s with code.underWay := false })
    ∧ (∀ c : CodeSamples, receiveCode s.code.format c = .lineBreak → s.code.lowSince = none →
        exec (.codeCharacter (.ends c)) s = exec .codeBreak s)
    ∧ (∀ (c : CodeSamples) (data : Byte) (p f n : Bool), receiveCode s.code.format c = .character data p f n →
        ∃ t, Taken (.codeCharacter (.ends c)) s t
          ∧ t = { s with code := t.code } ∧ t.code.underWay = false
          ∧ t.code.counters.noisy = (if n then s.code.counters.noisy + 1 else s.code.counters.noisy)
          ∧ (t.code.idleTimer = (if f && c.lowAtEnd then none else some s.now))
          ∧ (t.code.lineHigh = !(f && c.lowAtEnd))
          ∧ (s.code.readState = .waitIdle →
              t.code.readState = .waitIdle ∧ t.code.fifo = s.code.fifo
                ∧ t.code.counters.outside = s.code.counters.outside + 1)
          ∧ ((s.code.readState = .ready ∨ s.code.readState = .receiving) →
              t.code.readState = .receiving ∧ t.code.delivered = min 255 (s.code.delivered + 1)
              ∧ (s.code.marks.discarding = true → t.code.fifo = s.code.fifo ∧ t.code.marks = s.code.marks)
              ∧ (s.code.marks.discarding = false → f = true →
                  t.code.fifo = s.code.fifo
                    ∧ t.code.marks = { s.code.marks with framing := true, discarding := true })
              ∧ (s.code.marks.discarding = false → f = false → s.code.fifo.length < 32 →
                  t.code.fifo = s.code.fifo ++ [data]
                    ∧ t.code.marks = { s.code.marks with parity := s.code.marks.parity || p })
              ∧ (s.code.marks.discarding = false → f = false → 32 ≤ s.code.fifo.length →
                  t.code.fifo = s.code.fifo ∧ t.code.marks = { s.code.marks with overrun := true })))

/-- A break on the code port is one no-read report, given in RUN to the oldest candidate; its end, and the line's return
high (R125, R126, R133, R134, R135). A line found low at an enable or a trigger's end is watched from that moment, and
with the port OFF only the level is followed (log 12). -/
def Obligations.CodeBreakReportsNoRead : Prop :=
  (∀ s : State, Awake s → s.code.readState ≠ .off → s.code.readState ≠ .inBreak → s.code.sending = none →
    s.code.lineHigh = true → s.code.lowSince = none → ∃ t, Taken .codeBreak s t
      ∧ t = { s with track.queue := t.track.queue, code := t.code }
      ∧ t.code.readState = .inBreak ∧ t.code.idleTimer = none ∧ t.code.lineHigh = false
      ∧ t.code.counters.noReads = s.code.counters.noReads + 1
      ∧ t.code.counters.abandoned =
          (if s.code.readState = .receiving then s.code.counters.abandoned + 1 else s.code.counters.abandoned)
      ∧ (s.code.readState = .receiving → t.code.fifo = [] ∧ t.code.marks = {})
      ∧ (s.track.line = .idle → t.track = s.track
          ∧ t.code.lastRead = some ⟨.noRead, [], 0, s.input.count, none, none⟩)
      ∧ (s.track.line = .run → candidates s s.input.count = [] → t.track = s.track
          ∧ t.code.counters.orphans = s.code.counters.orphans + 1
          ∧ t.code.lastRead = some ⟨.noRead, [], 0, s.input.count, none, none⟩)
      ∧ (∀ r rest, s.track.line = .run → candidates s s.input.count = r :: rest →
          t.track.queue = (writeCode r.serial .noread s).track.queue
          ∧ t.code.lastRead = some ⟨.noRead, [], 0, s.input.count, some r.serial, some .noread⟩))
  ∧ (∀ (s : State) (since : Ticks), Awake s → s.code.readState ≠ .off → s.code.readState ≠ .inBreak →
      s.code.sending = none → s.code.lowSince = some since → 0 < s.code.rate →
      exec .codeBreak s = exec .codeBreak
        { s with
          now := max s.now (since + (10 * 8000000 + (s.code.rate - 1)) / s.code.rate)
          code.lowSince := none
          code.lineHigh := true })
  ∧ (∀ s : State, Awake s → s.code.readState = .off →
      Taken .codeBreak s { s with code.lineHigh := false }
        ∧ Taken .codeBreakEnd s { s with code.lineHigh := true }
        ∧ Taken .codeLineHigh s { s with code.lineHigh := true })
  ∧ (∀ s : State, Awake s → s.code.readState = .inBreak →
      Taken .codeBreakEnd s
        { s with code.readState := .waitIdle, code.lineHigh := true, code.idleTimer := some s.now })
  ∧ (∀ s : State, Awake s → s.code.readState ≠ .off → s.code.readState ≠ .inBreak → s.code.sending = none →
      s.code.lineHigh = false →
      Taken .codeLineHigh s
        { s with code.lineHigh := true, code.lowSince := none, code.idleTimer := some s.now })

/-- The idle timer: WAIT_IDLE becomes READY; in RECEIVING the read completes and is validated; in RUN it is assigned, a
well-formed one by its tag and a bad one as BADCODE to the oldest candidate; in IDLE it is counted and not assigned (R126,
R131, R132, R134, R135, R136, R140; log 2 for the clock). -/
def Obligations.IdleTimerEndsRead : Prop :=
  ∀ (s : State) (since : Ticks), Awake s → s.code.idleTimer = some since → s.code.sending = none →
    s.code.underWay = false → 0 < s.code.rate →
    let due := max s.now (since + (20 * 8000000 + (s.code.rate - 1)) / s.code.rate)
    (s.code.readState = .waitIdle →
      Taken .idleTimerExpiry s { s with now := due, code.idleTimer := none, code.readState := .ready })
    ∧ (s.code.readState = .receiving → ∃ t, Taken .idleTimerExpiry s t
        ∧ t = { s with now := due, track.queue := t.track.queue, code := t.code }
        ∧ t.code.readState = .ready ∧ t.code.fifo = [] ∧ t.code.marks = {} ∧ t.code.idleTimer = none
        ∧ t.code.counters.reads = s.code.counters.reads + 1
        ∧ (∃ l, t.code.lastRead = some l ∧ l.outcome = validateRead s.code.marks s.code.fifo
            ∧ l.text = s.code.fifo.take 16 ∧ l.delivered = s.code.delivered ∧ l.count = s.input.count)
        ∧ (let c := s.code.counters
           let outcome := validateRead s.code.marks s.code.fifo
           let counts : CodeCounters := { c with
             reads := c.reads + 1
             badOverrun := if outcome = .badcode .overrun then c.badOverrun + 1 else c.badOverrun
             badFraming := if outcome = .badcode .framing then c.badFraming + 1 else c.badFraming
             badParity := if outcome = .badcode .parity then c.badParity + 1 else c.badParity
             badLength := if outcome = .badcode .length then c.badLength + 1 else c.badLength
             badClass := if outcome = .badcode .charClass then c.badClass + 1 else c.badClass
             badCheck := if outcome = .badcode .check then c.badCheck + 1 else c.badCheck }
           let assigned (n : Option Serial) (x : Option CodeResult) :=
             t.code.lastRead = some ⟨outcome, s.code.fifo.take 16, s.code.delivered, s.input.count, n, x⟩
           (s.track.line = .idle → t.track = s.track ∧ assigned none none
              ∧ t.code.counters = { counts with idleReads := c.idleReads + 1 })
           ∧ (s.track.line = .run → outcome = .wellFormed →
              let r := assignTagged s.input.count s.code.fifo s
              t.track = r.2.track ∧ assigned (r.1.map Prod.fst) (r.1.map Prod.snd)
                ∧ t.code.counters = { r.2.code.counters with reads := c.reads + 1 })
           ∧ (∀ f, s.track.line = .run → outcome = .badcode f →
              (candidates s s.input.count = [] → t.track = s.track ∧ assigned none none
                ∧ t.code.counters = { counts with orphans := c.orphans + 1 })
              ∧ (∀ r rest, candidates s s.input.count = r :: rest →
                t.track = (writeCode r.serial .badcode s).track ∧ assigned (some r.serial) (some .badcode)
                  ∧ t.code.counters = counts))))

/-- A well-formed read goes to the candidate its tag names, else to the oldest candidate as a tag mismatch, else it is an
orphan (R134, R136). -/
def Obligations.ReadsAssignedByTag : Prop :=
  ∀ (s : State) (e : Count) (text : List Byte),
    (candidates s e = [] →
      assignTagged e text s = (none, { s with code.counters.orphans := s.code.counters.orphans + 1 }))
    ∧ (∀ r, (candidates s e).find? (fun r => r.serial.toNat == readSerial text && r.valve == readValve text) = some r →
        ∃ x, (assignTagged e text s).1 = some (r.serial, x)
          ∧ (x = .matched ↔
              readProduct text = digits 10 4 (recordCode s r) ∧ r.lot = some (readLot text))
          ∧ (x = .matched ∨ x = .contentMismatch)
          ∧ (assignTagged e text s).2.track = (writeCode r.serial x s).track)
    ∧ (∀ r rest, candidates s e = r :: rest →
        (candidates s e).find? (fun r => r.serial.toNat == readSerial text && r.valve == readValve text) = none →
        (assignTagged e text s).1 = some (r.serial, .tagMismatch)
          ∧ (assignTagged e text s).2.track = (writeCode r.serial .tagMismatch s).track
          ∧ (assignTagged e text s).2.code.counters.tagMismatches = s.code.counters.tagMismatches + 1)

/-! ## Dose Regulator -/

/-- A FILL ACK: unknown, stale or late ones are only counted; a taken one ends the exchange as Table 7-5 gives (R163,
R164, R153). -/
def Obligations.FillAckActsByClass : Prop :=
  ∀ (s : State) (op tag valve status : Byte), Listening s →
    (s.valveInCount valve.toNat = false →
      Taken (.fillAck op tag valve status) s
        { s with dose.counters.unknownAcks := s.dose.counters.unknownAcks + 1 })
    ∧ (ackOp op = none →
      Taken (.fillAck op tag valve status) s
        { s with dose.counters.unknownAcks := s.dose.counters.unknownAcks + 1 })
    ∧ (ValveIn s valve.toNat →
      let x := s.valve valve.toNat
      (∀ o, ackOp op = some o → awaits x.state o = true → x.exchange.map Prod.snd ≠ some tag →
        Taken (.fillAck op tag valve status) s
          { s with dose.counters.staleAcks := s.dose.counters.staleAcks + 1 })
      ∧ (op = 0x11 → x.state ≠ .awaitAck → x.abandonedTag = some tag →
        Taken (.fillAck op tag valve status) s
          { s with dose.counters.staleAcks := s.dose.counters.staleAcks + 1 })
      ∧ (∀ o, ackOp op = some o → awaits x.state o = false → ¬(o = .dose ∧ x.abandonedTag = some tag) →
        Taken (.fillAck op tag valve status) s
          { s with dose.counters.lateAcks := s.dose.counters.lateAcks + 1 })
      ∧ (∀ (t : Int), op = 0x11 → status = 0 → x.state = .awaitAck → x.exchange.map Prod.snd = some tag →
        x.pendingTrim = some t → ∃ u, Taken (.fillAck op tag valve status) s u
          ∧ u.valve valve.toNat = { x with
              state := .regulating, trim := t, pendingTrim := none, exchange := none, timer := none,
              generation := x.generation + 1, window := [], lag := s.activeLag }
          ∧ u.track.queue =
              s.track.queue.map (fun r => if r.valve = valve.toNat then { r with stale := true } else r)
          ∧ u.dose.counters = { s.dose.counters with doseChanges := s.dose.counters.doseChanges + 1 }
          ∧ OnlyValve valve.toNat s u)
      ∧ (op = 0x12 → status = 0 → x.state = .locking → x.exchange.map Prod.snd = some tag →
        ∃ u, Taken (.fillAck op tag valve status) s u
          ∧ u.valve valve.toNat = { x with state := .lockedOut, exchange := none, timer := none }
          ∧ u.dose.counters = { s.dose.counters with lockouts := s.dose.counters.lockouts + 1 }
          ∧ u.latch .valveLocked = true ∧ u.track = s.track
          ∧ OnlyValve valve.toNat s u)
      ∧ (op = 0x13 → status = 0 → x.state = .releasing → x.exchange.map Prod.snd = some tag →
        ∃ u, Taken (.fillAck op tag valve status) s u
          ∧ u.valve valve.toNat = { x with
              state := .regulating, limitCount := 0, exchange := none, timer := none,
              generation := x.generation + 1, window := [], lag := s.activeLag }
          ∧ u.track.queue =
              s.track.queue.map (fun r => if r.valve = valve.toNat then { r with stale := true } else r)
          ∧ u.dose.counters = { s.dose.counters with
              releases := s.dose.counters.releases + 1, doseChanges := s.dose.counters.doseChanges + 1 }
          ∧ OnlyValve valve.toNat s u)
      ∧ (∀ o, ackOp op = some o → status ≠ 0 → awaits x.state o = true → x.exchange.map Prod.snd = some tag →
        ∃ u, Taken (.fillAck op tag valve status) s u
          ∧ u.valve valve.toNat = { x with
              state := .fault, pendingTrim := none, exchange := none, timer := none,
              counters.refusals := x.counters.refusals + 1 }
          ∧ u.dose.counters = s.dose.counters ∧ u.latch .valveFault = true ∧ u.track = s.track ∧ OnlyValve valve.toNat s u))

/-- An exchange timer's expiry puts its valve in FAULT, and a reject pulse's expiry switches REJECT off (R165, R174,
R54). -/
def Obligations.ExchangeAndPulseExpire : Prop :=
  (∀ (s : State) (valve : Byte) (due : Ticks), Awake s → s.dose.valves.length = 48 → 1 ≤ valve.toNat →
    valve.toNat ≤ 48 → (s.valve valve.toNat).timer = some due →
    ∃ t, Taken (.exchangeTimeout valve) s t
      ∧ t.now = max s.now due
      ∧ t.valve valve.toNat = { s.valve valve.toNat with
          state := .fault, pendingTrim := none, exchange := none, timer := none,
          counters.timeouts := (s.valve valve.toNat).counters.timeouts + 1 }
      ∧ t.latch .valveFault = true ∧ t.track = s.track ∧ t.dose.counters = s.dose.counters
      ∧ OnlyValve valve.toNat { s with now := max s.now due } t)
  ∧ (∀ (s : State) (due : Ticks), Awake s → s.verdict.pulse = some due → ∃ t, Taken .rejectPulseExpiry s t
      ∧ t = { s with now := max s.now due, verdict.pulse := none } ∧ t.rejectOn = false)

/-- SELECT PRODUCT: an unknown code is refused, the active product's code changes nothing, any other makes a product
change of every valve (R145, R146, R147). -/
def Obligations.SelectProductChangesAll : Prop :=
  ∀ (s : State) (code : BitVec 16), Listening s →
    (findProduct code s = none → Taken (.selectProduct 0 code) s (actionAnswer 4 .badValue 0 (counted s)))
    ∧ (∀ p, findProduct code s = some p → s.dose.active = some p →
        Taken (.selectProduct 0 code) s (actionAnswer 4 .ok 0 (counted s)))
    ∧ (∀ p, findProduct code s = some p → s.dose.active ≠ some p →
        ∃ u, Taken (.selectProduct 0 code) s (actionAnswer 4 .ok 0 u)
          ∧ u.dose.active = some p ∧ u.latch .productChanged = true
          ∧ u.ring.urgent = s.ring.urgent.filter (fun f => !(f.owner == .doseRegulator && f.kind == 0x11))
          ∧ u.track.queue = s.track.queue.map (fun r => if r.valve = 0 then r else { r with stale := true })
          ∧ (∀ v, 1 ≤ v → v ≤ s.dose.valves.length →
              let x := s.valve v
              let y := u.valve v
              y.trim = 0 ∧ y.base = (s.product p).nominal.toNat ∧ y.window = [] ∧ y.limitCount = 0
                ∧ y.generation = x.generation + 1 ∧ y.lag = (s.product p).lag ∧ y.counters = x.counters
                ∧ (x.state = .awaitAck →
                    y.state = .regulating ∧ y.exchange = none ∧ y.timer = none ∧ y.pendingTrim = none
                      ∧ y.abandonedTag = x.exchange.map Prod.snd)
                ∧ (x.state ≠ .awaitAck →
                    y.state = x.state ∧ y.exchange = x.exchange ∧ y.timer = x.timer
                      ∧ y.abandonedTag = x.abandonedTag))
          ∧ u.dose.counters = { s.dose.counters with
              productChanges := s.dose.counters.productChanges + 1
              withdrawn := s.dose.counters.withdrawn
                + BitVec.ofNat 32 (s.ring.urgent.length - u.ring.urgent.length)
              doseChanges := s.dose.counters.doseChanges + 48 }
          ∧ u = { s with
              ring.urgent := u.ring.urgent
              ring.routine := u.ring.routine
              track.queue := u.track.queue
              dose.active := some p
              dose.valves := u.dose.valves
              dose.counters := u.dose.counters
              mgmt.latches := u.mgmt.latches
              mgmt.noticePending := u.mgmt.noticePending
              mgmt.counters := u.mgmt.counters })

/-- VALVE RELEASE and VALVE CLEAR, each refused in order or taken (R162, R167, R159, R153). -/
def Obligations.ReleaseAndClearValves : Prop :=
  ∀ (s : State) (valve : Byte), Listening s →
    let v := valve.toNat
    (s.valveInCount v = false →
      Taken (.valveRelease 0 valve) s (actionAnswer 8 .badIndex 0 (counted s))
        ∧ Taken (.valveClear 0 valve) s (actionAnswer 9 .badIndex 0 (counted s)))
    ∧ (ValveIn s v →
      ((s.valve v).state ≠ .lockedOut → Taken (.valveRelease 0 valve) s (actionAnswer 8 .badValue 0 (counted s)))
      ∧ ((s.valve v).state = .lockedOut → s.mgmt.filler = 0 →
          Taken (.valveRelease 0 valve) s (actionAnswer 8 .notReady 3 (counted s)))
      ∧ ((s.valve v).state = .lockedOut → s.mgmt.filler ≠ 0 → 8 ≤ s.ring.urgent.length →
          Taken (.valveRelease 0 valve) s (actionAnswer 8 .busy 0 (counted s)))
      ∧ ((s.valve v).state = .lockedOut → s.mgmt.filler ≠ 0 → s.ring.urgent.length < 8 →
          ∃ u, Taken (.valveRelease 0 valve) s (actionAnswer 8 .ok 0 u)
            ∧ u.ring.urgent = s.ring.urgent ++
                [⟨.doseRegulator, s.mgmt.filler, 0x13, [(s.valve v).generation + 1, valve]⟩]
            ∧ u.valve v = { s.valve v with
                state := .releasing, exchange := some (.on, (s.valve v).generation + 1), abandonedTag := none,
                timer := some (s.now + 8000 * s.dose.ackTimeout),
                counters.exchanges := (s.valve v).counters.exchanges + 1 }
            ∧ u = { counted s with ring.urgent := u.ring.urgent, dose.valves := u.dose.valves }
            ∧ ∀ w, 1 ≤ w → w ≠ v → u.valve w = s.valve w)
      ∧ ((s.valve v).state ≠ .fault → Taken (.valveClear 0 valve) s (actionAnswer 9 .badValue 0 (counted s)))
      ∧ ((s.valve v).state = .fault →
          ∃ u, Taken (.valveClear 0 valve) s (actionAnswer 9 .ok 0 u)
            ∧ u.valve v = { s.valve v with
                state := .regulating, generation := (s.valve v).generation + 1, window := [], lag := s.activeLag }
            ∧ u.track.queue = s.track.queue.map (fun r => if r.valve = v then { r with stale := true } else r)
            ∧ u.dose.counters = { s.dose.counters with doseChanges := s.dose.counters.doseChanges + 1 }
            ∧ u.ring = s.ring ∧ OnlyValve v (counted s) u))

/-- A statistics window of N weights is evaluated by R157 and R158, and a new trim that differs starts a trim exchange,
or finds the Urgent Queue full (R160, R159). -/
def Obligations.EvaluationTrimsValve : Prop :=
  ∀ (s : State) (p : Product) (v : Nat), repeaterOnly s = false → ValveIn s v →
    let x := s.valve v
    let error := x.window.sum.tdiv (p.window.toNat : Int) - p.target.toInt
    let change := clamp (-(p.maxStep.toNat : Int)) p.maxStep.toNat
      ((-error).tdiv ((p.gain.toNat * 2 ^ (p.shape.toNat % 4) : Nat) : Int))
    let trim := clamp (-(p.trimLimit.toNat : Int)) p.trimLimit.toNat (x.trim + change)
    let t := evaluateWindow p v s
    t.dose.counters.evaluations = s.dose.counters.evaluations + 1 ∧ (t.valve v).window = []
      ∧ (t.valve v).trim = x.trim ∧ (∀ w, 1 ≤ w → w ≠ v → t.valve w = s.valve w)
      ∧ t = { s with ring.urgent := t.ring.urgent, dose.valves := t.dose.valves, dose.counters := t.dose.counters }
      ∧ (error.natAbs ≤ p.deadband.toNat →
          t.dose.counters.deadband = s.dose.counters.deadband + 1 ∧ t.valve v = { x with window := [] })
      ∧ (p.deadband.toNat < error.natAbs → trim = x.trim →
          t.dose.counters.noChange = s.dose.counters.noChange + 1 ∧ t.valve v = { x with window := [] })
      ∧ (p.deadband.toNat < error.natAbs → trim ≠ x.trim → 8 ≤ s.ring.urgent.length →
          t.dose.counters.notStarted = s.dose.counters.notStarted + 1 ∧ t.valve v = { x with window := [] }
            ∧ t.ring = s.ring)
      ∧ (p.deadband.toNat < error.natAbs → trim ≠ x.trim → s.ring.urgent.length < 8 →
          t.ring.urgent = s.ring.urgent ++
            [⟨.doseRegulator, s.mgmt.filler, 0x11, [x.generation + 1, 1, BitVec.ofNat 8 v]
              ++ leBytes 2 (clamp 0 65535 ((x.base : Int) + trim)).toNat⟩]
          ∧ t.valve v = { x with
              state := .awaitAck, window := [], pendingTrim := some trim,
              exchange := some (.dose, x.generation + 1), abandonedTag := none,
              timer := some (s.now + 8000 * s.dose.ackTimeout),
              counters.exchanges := x.counters.exchanges + 1 })

/-! ## Verdict Unit -/

/-- The gate decision writes the verdict: REJECT for a mandatory reason or a maskable one that the product's mask enables,
ACCEPT otherwise; its counters and the reject pulse (R171, R172, R173, R174). A record of a valve is then handed over: its
limit count follows R155, and a lockout that is due starts when the Urgent Queue has room (R155, R161). Then its weight is
entered into the window where R156 lets it, and a window of N weights is evaluated (R155, R157). -/
def Obligations.GateDecisionJudges : Prop :=
  ∀ (s : State) (n : Serial) (r : CanRecord), findRecord n s.track.queue = some r →
    let rs := Reason.all.filter (reasonFound s r)
    let rejected := rs.any (fun x => x.mandatory || maskEnables (rejectMask s r) x)
    let t := gateDecision n s
    t.track = { s.track with
      queue := updateRecord n
        (fun r => { r with verdict := if rejected then .reject else .accept, reasons := rs }) s.track.queue }
    ∧ t.verdict.counters.gateDecisions = s.verdict.counters.gateDecisions + 1
    ∧ t.verdict.counters.rejects =
        (if rejected then s.verdict.counters.rejects + 1 else s.verdict.counters.rejects)
    ∧ t.verdict.counters.accepts =
        (if rejected then s.verdict.counters.accepts else s.verdict.counters.accepts + 1)
    ∧ (rejected = true → t.verdict.pulse = some (s.now + 8000 * s.verdict.pulseTime))
    ∧ (rejected = false → t.verdict.pulse = s.verdict.pulse)
    ∧ t = { s with
        ring.urgent := t.ring.urgent
        track := t.track
        dose.valves := t.dose.valves
        dose.counters := t.dose.counters
        verdict.pulse := t.verdict.pulse
        verdict.counters := t.verdict.counters }
    ∧ (s.valveInCount r.valve = false → t.dose = s.dose ∧ t.ring = s.ring)
    ∧ (ValveIn s r.valve →
      let x := s.valve r.valve
      let limit :=
        if x.state = .disabled then x.limitCount
        else if .under ∈ rs ∨ .over ∈ rs then min 255 (x.limitCount + 1)
        else if rejected = false ∧ weightGood r = true then 0
        else x.limitCount
      (t.valve r.valve).counters.handOffs = x.counters.handOffs + 1
      ∧ (t.valve r.valve).limitCount = limit
      ∧ (∀ w, 1 ≤ w → w ≠ r.valve → t.valve w = s.valve w)
      ∧ (∀ p, s.activeProduct = some p → 0 < p.lockout.toNat → p.lockout.toNat ≤ limit →
        (x.state = .regulating ∨ x.state = .hold) → repeaterOnly s = false →
        (s.ring.urgent.length < 8 →
          (t.valve r.valve).state = .locking ∧ (t.valve r.valve).window = []
            ∧ (t.valve r.valve).counters.entered = x.counters.entered
            ∧ (t.valve r.valve).exchange = some (.off, x.generation + 1)
            ∧ (t.valve r.valve).timer = some (s.now + 8000 * s.dose.ackTimeout)
            ∧ t.ring.urgent = s.ring.urgent ++
                [⟨.doseRegulator, s.mgmt.filler, 0x12, [x.generation + 1, BitVec.ofNat 8 r.valve]⟩])
        ∧ (8 ≤ s.ring.urgent.length → t.ring.urgent = s.ring.urgent
            ∧ t.dose.counters.deferred = s.dose.counters.deferred + 1))
      ∧ (let y : Valve := { x with limitCount := limit, counters.handOffs := x.counters.handOffs + 1 }
         (s.activeProduct = none → t.ring = s.ring ∧ t.valve r.valve = y ∧ t.dose.counters = s.dose.counters)
         ∧ ∀ p, s.activeProduct = some p →
          let due := 0 < p.lockout.toNat ∧ p.lockout.toNat ≤ limit ∧ (x.state = .regulating ∨ x.state = .hold)
          let u : State := { s with
            dose.counters.deferred :=
              if due then s.dose.counters.deferred + 1 else s.dose.counters.deferred }
          let entered : Option Int := match r.weight with
            | some w =>
              if r.eligible = true ∧ r.stale = false ∧ w.quality = .good ∧ w.test = false
                  ∧ r.code ≠ some .tagMismatch ∧ r.product ≠ none ∧ r.product = s.dose.active ∧ x.state = .regulating
              then some w.net else none
            | none => none
          ¬(due ∧ repeaterOnly s = false ∧ s.ring.urgent.length < 8) →
          (entered = none →
            t.ring = s.ring ∧ t.valve r.valve = y ∧ t.dose.counters = u.dose.counters)
          ∧ (∀ net, entered = some net →
            let z : Valve := { y with
              window := x.window ++ [net], counters.entered := x.counters.entered + 1 }
            (x.window.length + 1 < p.window.toNat →
              t.ring = s.ring ∧ t.valve r.valve = z ∧ t.dose.counters = u.dose.counters)
            ∧ (p.window.toNat ≤ x.window.length + 1 →
              let e := evaluateWindow p r.valve (setValve r.valve z u)
              t.ring = e.ring ∧ t.dose = e.dose))))

/-- A confirm event is given in RUN to the oldest record it fits, and counted otherwise (R53, R175): the record holds an
arrival, its confirm window contains the count, its confirm-close is not passed and its confirm state is absent. The
edge is accepted by its filter (R40); that the clock then stands at the due time at least is the model's choice (log 2,
DESIGN CHOICE). -/
def Obligations.ConfirmEventAssigned : Prop :=
  (∀ (s : State) (e : Count) (dk wk : Nat), s.dk = some dk → s.wk = some wk → wk < 2 ^ 30 →
    confirmCandidate s e = s.track.queue.find? (fun r =>
      match r.arrival with
      | some a => decide ((e - (a + BitVec.ofNat 32 dk - BitVec.ofNat 32 wk)).toNat ≤ 2 * wk)
          && (!r.passed.confirmClose && r.confirm.isNone)
      | none => false))
  ∧ ∀ (s : State) (since : Ticks), Awake s → s.input.confirmEye.filter = .changing since →
    s.input.confirmEye.pin = true →
    let u : State := { s with
      now := max s.now (since + 8 * s.input.confirmEye.time)
      input.confirmEye.accepted := true
      input.confirmEye.filter := .stable
      input.counters.confirms := s.input.counters.confirms + 1 }
    (s.track.line = .idle →
      Taken .confirmEvent s { u with verdict.counters.confirmIdle := s.verdict.counters.confirmIdle + 1 })
    ∧ (s.track.line = .run → confirmCandidate s s.input.count = none →
      Taken .confirmEvent s
        { u with verdict.counters.confirmUnassigned := s.verdict.counters.confirmUnassigned + 1 })
    ∧ (∀ r, s.track.line = .run → confirmCandidate s s.input.count = some r →
      Taken .confirmEvent s
        { u with
          verdict.counters.confirmAssigned := s.verdict.counters.confirmAssigned + 1
          track.queue := updateRecord r.serial (fun r => { r with confirm := some .seen }) s.track.queue })

/-! ## Management Unit -/

/-- Requests: an unknown kind, IDENTIFY, a TABLE READ, the refusals of short or misnamed requests, and a source other than
0 (R182, R183, R185, R186, R189, R196). That a request is counted before it is performed is the model's choice (log 29). -/
def Obligations.RequestsAnswered : Prop :=
  ∀ s : State, Listening s →
    (∀ kind, Taken (.unknownKindRequest kind) s
      (appendReply 0 kind ⟨.unknownKind, 0, []⟩
        { counted s with mgmt.counters.unknownKinds := s.mgmt.counters.unknownKinds + 1 }))
    ∧ Taken (.identify 0 []) s (appendReply 0 0x33 ⟨.ok, 0, [0x54, 0x57, 0x34, 0x38, 1]⟩ (counted s))
    ∧ (∀ b rest, Taken (.identify 0 (b :: rest)) s (appendReply 0 0x33 ⟨.badLength, 0, []⟩ (counted s)))
    ∧ (∀ data : List Byte, data.length < 3 →
        Taken (.tableRead 0 data) s (appendReply 0 0x30 ⟨.badLength, 0, [0, 0, 0]⟩ (counted s)))
    ∧ (∀ (id first count b : Byte) (rest : List Byte), Taken (.tableRead 0 (id :: first :: count :: b :: rest)) s
        (appendReply 0 0x30 ⟨.badLength, 0, [id, first, count]⟩ (counted s)))
    ∧ (∀ id first count : Byte, tableShape id.toNat = none → Taken (.tableRead 0 [id, first, count]) s
        (appendReply 0 0x30 ⟨.badTable, 0, [id, first, count]⟩ (counted s)))
    ∧ (∀ (id first count : Byte) (t : TableShape), tableShape id.toNat = some t →
        (count = 0 ∨ 50 < count.toNat * t.readSize) → Taken (.tableRead 0 [id, first, count]) s
          (appendReply 0 0x30 ⟨.badLength, 0, [id, first, count]⟩ (counted s)))
    ∧ (∀ (id first count : Byte) (t : TableShape), tableShape id.toNat = some t → count ≠ 0 →
        count.toNat * t.readSize ≤ 50 →
        ((first.toNat < t.first ∨ t.last < first.toNat) → Taken (.tableRead 0 [id, first, count]) s
          (appendReply 0 0x30 ⟨.badIndex, first, [id, first, count]⟩ (counted s)))
        ∧ (t.first ≤ first.toNat → first.toNat ≤ t.last → t.last < first.toNat + count.toNat - 1 →
          Taken (.tableRead 0 [id, first, count]) s
            (appendReply 0 0x30 ⟨.badIndex, BitVec.ofNat 8 (t.last + 1), [id, first, count]⟩ (counted s))))
    ∧ (∀ id first count : Byte, ∀ t, tableShape id.toNat = some t → 1 ≤ count.toNat →
        count.toNat * t.readSize ≤ 50 → t.first ≤ first.toNat → first.toNat + count.toNat - 1 ≤ t.last →
        Taken (.tableRead 0 [id, first, count]) s
          (appendReply 0 0x30
            ⟨.ok, 0, [id, first, count] ++ readEntries (counted s) id.toNat first.toNat count.toNat⟩ (counted s)))
    ∧ (∀ (id : Byte) (write : Byte → Byte → Byte → List Byte → Instr) (t : TableShape) (first count : Byte)
        (data : List Byte),
        (id, write) ∈ [((1 : Byte), Instr.stationsWrite), (2, .settingsWrite), (3, .distancesWrite),
          (4, .passRulesWrite), (5, .productsWrite), (6, .valveModeWrite), (7, .testWeightsWrite), (10, .eventsWrite)] →
        tableShape id.toNat = some t →
        ((count = 0 ∨ data.length ≠ count.toNat * t.writeSize) →
          Taken (write 0 first count data) s (refusedReply .badLength 0 id first count (counted s)))
        ∧ (count ≠ 0 → data.length = count.toNat * t.writeSize →
          ((first.toNat < t.first ∨ t.last < first.toNat) →
            Taken (write 0 first count data) s (refusedReply .badIndex first id first count (counted s)))
          ∧ (t.first ≤ first.toNat → first.toNat ≤ t.last → t.last < first.toNat + count.toNat - 1 →
            Taken (write 0 first count data) s
              (refusedReply .badIndex (BitVec.ofNat 8 (t.last + 1)) id first count (counted s)))))
    ∧ (∀ data : List Byte, data.length < 3 →
        Taken (.badTableWrite 0 data) s (appendReply 0 0x31 ⟨.badLength, 0, [0, 0, 0]⟩ (counted s)))
    ∧ (∀ (id first count : Byte) (rest : List Byte), isBadTableWrite (id :: first :: count :: rest) = true →
        Taken (.badTableWrite 0 (id :: first :: count :: rest)) s
          (appendReply 0 0x31 ⟨.badTable, 0, [id, first, count]⟩ (counted s)))
    ∧ Taken (.unknownActionCode 0 []) s (actionAnswer 0 .badLength 0 (counted s))
    ∧ (∀ (code : Byte) (arg : List Byte), actionArgumentLength code = none →
        Taken (.unknownActionCode 0 (code :: arg)) s (actionAnswer code .badValue 0 (counted s)))
    ∧ (∀ (code : Byte) (arg : List Byte) (k : Nat), actionArgumentLength code = some k → arg.length ≠ k →
        Taken (.unknownActionCode 0 (code :: arg)) s (actionAnswer code .badLength 0 (counted s)))
    ∧ (∀ (c : Instr) (src kind : Byte), requestOf c = some (src, kind) → src ≠ 0 →
        let u : State := { counted s with mgmt.counters.refusedSources := s.mgmt.counters.refusedSources + 1 }
        (src.toNat ≤ 62 → Taken c s (appendReply src kind ⟨.refusedSource, 0, []⟩ u))
          ∧ (63 ≤ src.toNat → Taken c s u))

/-- STATIONS and DISTANCES: written in IDLE after their checks, a stored Dp emptying the learned-distance list; IN_USE in
RUN (R187, R68, R69; log 22 for the index of DISTANCES' IN_USE). -/
def Obligations.StationsAndDistancesWritten : Prop :=
  ∀ s : State, Listening s →
    (∀ a b : Byte, s.track.line = .idle → a.toNat < 63 → b.toNat < 63 → a ≠ s.mgmt.ownStation →
      b ≠ s.mgmt.ownStation → (a ≠ b ∨ a = 0) →
      Taken (.stationsWrite 0 0 2 [a, b]) s
        (wroteReply 1 0 2 { counted s with mgmt.filler := a, mgmt.coder := b }))
    ∧ (∀ a b : Byte, s.track.line = .idle →
      ((63 ≤ a.toNat ∨ a = s.mgmt.ownStation) →
        Taken (.stationsWrite 0 0 2 [a, b]) s (refusedReply .badValue 0 1 0 2 (counted s)))
      ∧ (a.toNat < 63 → a ≠ s.mgmt.ownStation → (63 ≤ b.toNat ∨ b = s.mgmt.ownStation) →
        Taken (.stationsWrite 0 0 2 [a, b]) s (refusedReply .badValue 1 1 0 2 (counted s)))
      ∧ (a.toNat < 63 → a ≠ s.mgmt.ownStation → a ≠ 0 →
        Taken (.stationsWrite 0 0 2 [a, a]) s (refusedReply .badValue 0 1 0 2 (counted s))))
    ∧ (∀ a b : Byte, s.track.line = .run →
      Taken (.stationsWrite 0 0 2 [a, b]) s (refusedReply .inUse 0 1 0 2 (counted s)))
    ∧ (∀ (i : Byte) (d : Nat), s.track.line = .idle → s.track.distances.length = 11 → i.toNat ≤ 10 →
      distanceInRange i.toNat d = true →
      (orderConditions (s.track.distances.set i.toNat (some d))).all (fun c => c.2) = true →
      Taken (.distancesWrite 0 i 1 (leBytes 4 d)) s
        (wroteReply 3 i 1
          { counted s with
            track.distances := s.track.distances.set i.toNat (some d)
            track.learned := if i = 4 then [] else s.track.learned }))
    ∧ (∀ (i : Byte) (d : Nat), s.track.line = .idle → i.toNat ≤ 10 → distanceInRange i.toNat d = true →
      (orderConditions (s.track.distances.set i.toNat (some d))).all (fun c => c.2) = false →
      Taken (.distancesWrite 0 i 1 (leBytes 4 d)) s (refusedReply .badValue i 3 i 1 (counted s)))
    ∧ (∀ d : Nat, s.track.line = .idle → d ≤ 1 →
      (orderConditions s.track.distances).all (fun c => c.2) = true →
      Taken (.distancesWrite 0 11 1 (leBytes 4 d)) s
        (wroteReply 3 11 1 { counted s with track.override := d == 1 }))
    ∧ (∀ (i : Byte) (d : Nat), s.track.line = .idle → i.toNat ≤ 11 → d < 2 ^ 32 → distanceInRange i.toNat d = false →
      Taken (.distancesWrite 0 i 1 (leBytes 4 d)) s (refusedReply .badValue i 3 i 1 (counted s)))
    ∧ (∀ (i : Byte) (data : List Byte), s.track.line = .run → i.toNat ≤ 11 → data.length = 4 →
      Taken (.distancesWrite 0 i 1 data) s (refusedReply .inUse i 3 i 1 (counted s)))

/-- PASS RULES, PRODUCTS, EVENTS, valve modes and TEST WEIGHTS: one entry decoded, tested and stored, or refused with its
index (R31, R114, R142, R143, R168, R191, R196). That a valve mode above 2 for a valve above the count is answered
BAD_INDEX is the model's order of tests (log 30). -/
def Obligations.TableEntriesWritten : Prop :=
  (∀ (s : State) (i : Byte), Listening s →
    (∀ (b : List Byte) (o : Option PassRule), i.toNat ≤ 15 → b.length = 4 → decodeRule b = some o →
      Taken (.passRulesWrite 0 i 1 b) s
        (wroteReply 4 i 1 { counted s with pass.rules := s.pass.rules.set i.toNat o }))
    ∧ (∀ b : List Byte, i.toNat ≤ 15 → b.length = 4 → decodeRule b = none →
      Taken (.passRulesWrite 0 i 1 b) s (refusedReply .badValue i 4 i 1 (counted s)))
    ∧ (∀ b : List Byte, i.toNat ≤ 15 → b.length = 34 → productInUse s i.toNat = true →
      Taken (.productsWrite 0 i 1 b) s (refusedReply .inUse i 5 i 1 (counted s)))
    ∧ (∀ b : List Byte, i.toNat ≤ 15 → b.length = 34 → productInUse s i.toNat = false →
      ((decodeProduct b).isEmpty = true ∨
        ((decodeProduct b).valuesHold = true ∧
          sharesCode (s.dose.products.set i.toNat (decodeProduct b)) i.toNat = false)) →
      Taken (.productsWrite 0 i 1 b) s
        (wroteReply 5 i 1 { counted s with dose.products := s.dose.products.set i.toNat (decodeProduct b) }))
    ∧ (∀ b : List Byte, i.toNat ≤ 15 → b.length = 34 → productInUse s i.toNat = false →
      (decodeProduct b).isEmpty = false →
      ((decodeProduct b).valuesHold = false ∨
        sharesCode (s.dose.products.set i.toNat (decodeProduct b)) i.toNat = true) →
      Taken (.productsWrite 0 i 1 b) s (refusedReply .badValue i 5 i 1 (counted s)))
    ∧ (∀ m : Byte, i.toNat ≤ 17 → m.toNat ≤ 1 →
      Taken (.eventsWrite 0 i 1 [m]) s
        (wroteReply 10 i 1 { counted s with mgmt.masks := setMask i.toNat (m == 1) s.mgmt.masks }))
    ∧ (∀ m : Byte, i.toNat ≤ 17 → 2 ≤ m.toNat →
      Taken (.eventsWrite 0 i 1 [m]) s (refusedReply .badValue i 10 i 1 (counted s))))
  ∧ (∀ (s : State) (i : Byte), Listening s →
    (∀ m : Byte, 1 ≤ i.toNat → i.toNat ≤ 48 → ValveIn s i.toNat → m.toNat ≤ 2 →
      ((s.valve i.toNat).state.inExchange = true →
        Taken (.valveModeWrite 0 i 1 [m]) s (refusedReply .busy i 6 i 1 (counted s)))
      ∧ (((s.valve i.toNat).state = .lockedOut ∨ (s.valve i.toNat).state = .fault) →
        Taken (.valveModeWrite 0 i 1 [m]) s (refusedReply .inUse i 6 i 1 (counted s)))
      ∧ (((s.valve i.toNat).state = .disabled ∨ (s.valve i.toNat).state = .regulating
          ∨ (s.valve i.toNat).state = .hold) →
        ∃ u, Taken (.valveModeWrite 0 i 1 [m]) s (wroteReply 6 i 1 u)
          ∧ u = { counted s with dose.valves := u.dose.valves }
          ∧ (∀ w, 1 ≤ w → w ≠ i.toNat → u.valve w = s.valve w)
          ∧ (u.valve i.toNat).state = (if m = 0 then .disabled else if m = 1 then .regulating else .hold)
          ∧ ((u.valve i.toNat).state = (s.valve i.toNat).state → u.valve i.toNat = s.valve i.toNat)
          ∧ ((u.valve i.toNat).state ≠ (s.valve i.toNat).state →
              u.valve i.toNat = { s.valve i.toNat with
                state := (u.valve i.toNat).state, window := [],
                limitCount := if m = 0 then 0 else (s.valve i.toNat).limitCount })))
    ∧ (∀ m : Byte, 1 ≤ i.toNat → i.toNat ≤ 48 → ValveIn s i.toNat → 3 ≤ m.toNat →
        Taken (.valveModeWrite 0 i 1 [m]) s (refusedReply .badValue i 6 i 1 (counted s)))
    ∧ (∀ m : Byte, 1 ≤ i.toNat → i.toNat ≤ 48 → s.dose.valveCount < i.toNat →
        Taken (.valveModeWrite 0 i 1 [m]) s (refusedReply .badIndex i 6 i 1 (counted s)))
    ∧ (∀ x : Int, i.toNat ≤ 7 → -100000 ≤ x → x ≤ 999999 → s.weigh.test.pointer < s.weigh.test.count →
        Taken (.testWeightsWrite 0 i 1 (leSigned 4 x)) s
          (wroteReply 7 i 1 { counted s with weigh.test.weights := s.weigh.test.weights.set i.toNat x }))
    ∧ (∀ x : Int, i = 8 → 1 ≤ x → x ≤ 8 →
        Taken (.testWeightsWrite 0 i 1 (leSigned 4 x)) s
          (wroteReply 7 i 1 { counted s with
            weigh.test.count := x.toNat
            weigh.test.pointer := if x ≤ s.weigh.test.pointer then 0 else s.weigh.test.pointer }))
    ∧ (∀ x : Int, 10 ≤ i.toNat → i.toNat ≤ 13 → -32768 ≤ x → x ≤ 32767 → s.weigh.test.pointer < s.weigh.test.count →
        Taken (.testWeightsWrite 0 i 1 (leSigned 4 x)) s
          (wroteReply 7 i 1 { counted s with
            weigh.test.ripple := s.weigh.test.ripple.set (i.toNat - 10) x }))
    ∧ (∀ x : Int, i = 9 → (x = 0 ∨ x = 1) → s.weigh.test.pointer < s.weigh.test.count →
        Taken (.testWeightsWrite 0 i 1 (leSigned 4 x)) s
          (wroteReply 7 i 1 { counted s with weigh.test.mode := if x = 1 then .step else .fixed }))
    ∧ (∀ data : List Byte, i.toNat ≤ 14 → data.length = 4 → testWeightInRange i.toNat (leInt data) = false →
        Taken (.testWeightsWrite 0 i 1 data) s (refusedReply .badValue i 7 i 1 (counted s))))

/-- The valve count: written in IDLE, it disables the valves above it, brings new ones to REGULATING and makes the valve
index UNKNOWN; refused BUSY, IN_USE or BAD_VALUE otherwise (R150, R49; log 27 for valves above both counts). That a value
out of range is answered IN_USE in RUN, the state's test before the value's, is the model's order (log 13). -/
def Obligations.ValveCountWritten : Prop :=
  ∀ (s : State) (e : BitVec 64), Listening s →
    (s.track.line = .run → Taken (.valveCountWrite 0 e) s (refusedReply .inUse 2 2 2 1 (counted s)))
    ∧ (s.track.line = .idle → (e.toInt < 8 ∨ 48 < e.toInt) →
      Taken (.valveCountWrite 0 e) s (refusedReply .badValue 2 2 2 1 (counted s)))
    ∧ (s.track.line = .idle → 8 ≤ e.toInt → e.toInt ≤ 48 → s.dose.valveCount ≤ 48 → s.dose.valves.length = 48 →
      ((∃ v : Nat, e.toInt < (v : Int) ∧ v ≤ s.dose.valveCount ∧ (s.valve v).state.inExchange = true) →
        Taken (.valveCountWrite 0 e) s (refusedReply .busy 2 2 2 1 (counted s)))
      ∧ ((∀ v : Nat, e.toInt < (v : Int) → v ≤ s.dose.valveCount → (s.valve v).state.inExchange = false) →
        (∃ v : Nat, e.toInt < (v : Int) ∧ v ≤ s.dose.valveCount
          ∧ ((s.valve v).state = .lockedOut ∨ (s.valve v).state = .fault)) →
        Taken (.valveCountWrite 0 e) s (refusedReply .inUse 2 2 2 1 (counted s)))
      ∧ ((∀ v : Nat, e.toInt < v → v ≤ s.dose.valveCount →
            (s.valve v).state = .disabled ∨ (s.valve v).state = .regulating ∨ (s.valve v).state = .hold) →
        e.toInt ≠ s.dose.valveCount →
        ∃ u, Taken (.valveCountWrite 0 e) s (wroteReply 2 2 1 u)
          ∧ u = { counted s with
              dose.valveCount := e.toInt.toNat, dose.valves := u.dose.valves, input.index := .unknown }
          ∧ ∀ v : Nat, 1 ≤ v → v ≤ 48 →
            (e.toInt < v → u.valve v = { s.valve v with state := .disabled, window := [], limitCount := 0, lag := 0 })
            ∧ (s.dose.valveCount < v → v ≤ e.toInt →
                u.valve v = { s.valve v with
                  state := .regulating, window := [], limitCount := 0, lag := s.activeLag })
            ∧ (v ≤ s.dose.valveCount → v ≤ e.toInt → u.valve v = s.valve v))
      ∧ (e.toInt = s.dose.valveCount → Taken (.valveCountWrite 0 e) s (wroteReply 2 2 1 (counted s))))

/-- The settings of the Input Unit, the Weighing Engine and the lot string: a value in range is stored with its effect, one
out of range is refused BAD_VALUE with its index (R41, R43, R92, R103, R115, R110, R120). That a calibration factor out of
range is answered IN_USE in RUN is the model's order of tests (log 13), and the rounding of the loss time log 2. -/
def Obligations.UnitSettingsWritten : Prop :=
  ∀ (s : State) (e : BitVec 64), Listening s →
    (∀ i : Input, 0 ≤ e.toInt → e.toInt ≤ 255 → (s.input.filterOf i).filter = .stable →
      Taken (.filterTimeWrite 0 (.discrete i) e) s
        (wroteReply 2 (BitVec.ofNat 8 (filterIndex (.discrete i))) 1
          (modifyFilter i (fun f => { f with time := e.toInt.toNat }) (counted s))))
    ∧ (∀ (i : Input) (since : Ticks), 0 ≤ e.toInt → e.toInt ≤ 255 → (s.input.filterOf i).filter = .changing since →
      let u := modifyFilter i (fun f => { f with time := e.toInt.toNat }) (counted s)
      (s.now < since + 8 * e.toInt.toNat → Taken (.filterTimeWrite 0 (.discrete i) e) s
        (wroteReply 2 (BitVec.ofNat 8 (filterIndex (.discrete i))) 1 u))
      ∧ (since + 8 * e.toInt.toNat ≤ s.now → Taken (.filterTimeWrite 0 (.discrete i) e) s
        (wroteReply 2 (BitVec.ofNat 8 (filterIndex (.discrete i))) 1
          (deliverEdge i (s.input.filterOf i).pin
            (modifyFilter i (fun f => { f with accepted := f.pin, filter := .stable }) u)))))
    ∧ (0 ≤ e.toInt → e.toInt ≤ 63 → s.input.encoder.filter = .stable →
      Taken (.filterTimeWrite 0 .encoder e) s
        (wroteReply 2 8 1 { counted s with input.encoder.time := e.toInt.toNat }))
    ∧ (∀ since : Ticks, 0 ≤ e.toInt → e.toInt ≤ 63 → s.input.encoder.filter = .changing since →
      let u : State := { counted s with input.encoder.time := e.toInt.toNat }
      (s.now < since + 8 * e.toInt.toNat → Taken (.filterTimeWrite 0 .encoder e) s (wroteReply 2 8 1 u))
      ∧ (since + 8 * e.toInt.toNat ≤ s.now →
        Taken (.filterTimeWrite 0 .encoder e) s (wroteReply 2 8 1 (acceptPair u))))
    ∧ ((e.toInt < 0 ∨ 63 < e.toInt) →
      Taken (.filterTimeWrite 0 .encoder e) s (refusedReply .badValue 8 2 8 1 (counted s)))
    ∧ (∀ i : Input, (e.toInt < 0 ∨ 255 < e.toInt) →
      Taken (.filterTimeWrite 0 (.discrete i) e) s
        (refusedReply .badValue (BitVec.ofNat 8 (filterIndex (.discrete i))) 2
          (BitVec.ofNat 8 (filterIndex (.discrete i))) 1 (counted s)))
    ∧ (1200 ≤ e.toInt → e.toInt ≤ 9600 → s.weigh.lossTimer = none →
      Taken (.sampleRateWrite 0 e) s (wroteReply 2 9 1 { counted s with weigh.sampleRate := e.toInt.toNat }))
    ∧ (∀ since : Ticks, 1200 ≤ e.toInt → e.toInt ≤ 9600 → s.weigh.lossTimer = some since →
      let u : State := { counted s with weigh.sampleRate := e.toInt.toNat }
      let due := since + (4 * 8000000 + (e.toInt.toNat - 1)) / e.toInt.toNat
      (s.now < due → Taken (.sampleRateWrite 0 e) s (wroteReply 2 9 1 u))
      ∧ (due ≤ s.now → Taken (.sampleRateWrite 0 e) s (wroteReply 2 9 1 (lossExpiry u))))
    ∧ ((e.toInt < 1200 ∨ 9600 < e.toInt) →
      Taken (.sampleRateWrite 0 e) s (refusedReply .badValue 9 2 9 1 (counted s)))
    ∧ (4 ≤ e.toInt → e.toInt ≤ 64 →
      Taken (.weighingSettingsWrite 0 .blockSize e) s
        (wroteReply 2 10 1
          { counted s with
            weigh.blockSize := e.toInt.toNat
            weigh.block := SampleBlock.empty
            weigh.run := TrackingRun.empty }))
    ∧ ((e.toInt < 4 ∨ 64 < e.toInt) →
      Taken (.weighingSettingsWrite 0 .blockSize e) s (refusedReply .badValue 10 2 10 1 (counted s)))
    ∧ (0 ≤ e.toInt → e.toInt ≤ 65535 →
      Taken (.weighingSettingsWrite 0 .settleBand e) s
        (wroteReply 2 11 1 (discardTracking { counted s with weigh.settleBand := e.toInt.toNat }))
      ∧ Taken (.weighingSettingsWrite 0 .zeroBand e) s
        (wroteReply 2 13 1 (discardTracking { counted s with weigh.zeroBand := e.toInt.toNat })))
    ∧ ((e.toInt < 0 ∨ 65535 < e.toInt) →
      Taken (.weighingSettingsWrite 0 .settleBand e) s (refusedReply .badValue 11 2 11 1 (counted s))
      ∧ Taken (.weighingSettingsWrite 0 .zeroBand e) s (refusedReply .badValue 13 2 13 1 (counted s)))
    ∧ ((e = 0 ∨ e = 1) → Taken (.weighingSettingsWrite 0 .zeroTracking e) s
        (wroteReply 2 12 1 (discardTracking { counted s with weigh.zeroTracking := e == 1 })))
    ∧ (e ≠ 0 → e ≠ 1 →
      Taken (.weighingSettingsWrite 0 .zeroTracking e) s (refusedReply .badValue 12 2 12 1 (counted s)))
    ∧ (s.track.line = .idle → 1 ≤ e.toInt → e.toInt ≤ 16777216 →
      Taken (.calibrationFactorWrite 0 e) s (wroteReply 2 14 1 { counted s with weigh.factor := e.toInt.toNat }))
    ∧ (s.track.line = .idle → (e.toInt < 1 ∨ 16777216 < e.toInt) →
      Taken (.calibrationFactorWrite 0 e) s (refusedReply .badValue 14 2 14 1 (counted s)))
    ∧ (s.track.line = .run →
      Taken (.calibrationFactorWrite 0 e) s (refusedReply .inUse 14 2 14 1 (counted s)))
    ∧ (((leBytes 8 e.toNat).take 6).all isCodeChar = true → (leBytes 8 e.toNat).drop 6 = [0, 0] →
      Taken (.lotStringWrite 0 e) s
        (wroteReply 2 16 1 { counted s with code.lot := (leBytes 8 e.toNat).take 6 }))
    ∧ ((((leBytes 8 e.toNat).take 6).all isCodeChar = false ∨ (leBytes 8 e.toNat).drop 6 ≠ [0, 0]) →
      Taken (.lotStringWrite 0 e) s (refusedReply .badValue 16 2 16 1 (counted s)))

/-- The code port's settings: rate and format stored while the port is OFF and refused IN_USE while it is ON; the enable
opens and closes the port (R123, R127); settings without a behaviour of their own (R159, R174, R178, R193, R188); and a
run of entries is stored whole in index order, or refused whole with the first entry that fails (R186). -/
def Obligations.PortAndPlainSettingsWritten : Prop :=
  ∀ (s : State) (e : BitVec 64), Listening s →
    (isPortRate e.toInt = true → s.code.enable = false →
      Taken (.codePortConfigWrite 0 .rate e) s (wroteReply 2 17 1 { counted s with code.rate := e.toInt.toNat }))
    ∧ (isPortRate e.toInt = true → s.code.enable = true →
      Taken (.codePortConfigWrite 0 .rate e) s (refusedReply .inUse 17 2 17 1 (counted s)))
    ∧ (isPortRate e.toInt = false →
      Taken (.codePortConfigWrite 0 .rate e) s (refusedReply .badValue 17 2 17 1 (counted s)))
    ∧ ((e = 0 ∨ e = 1) → s.code.enable = false →
      Taken (.codePortConfigWrite 0 .format e) s
        (wroteReply 2 18 1 { counted s with code.format := if e = 1 then .sevenE1 else .eightN1 }))
    ∧ ((e = 0 ∨ e = 1) → s.code.enable = true →
      Taken (.codePortConfigWrite 0 .format e) s (refusedReply .inUse 18 2 18 1 (counted s)))
    ∧ (e ≠ 0 → e ≠ 1 →
      Taken (.codePortConfigWrite 0 .format e) s (refusedReply .badValue 18 2 18 1 (counted s))
        ∧ Taken (.codePortEnable 0 e) s (refusedReply .badValue 19 2 19 1 (counted s)))
    ∧ (((e = 0 ∧ s.code.enable = false) ∨ (e = 1 ∧ s.code.enable = true)) →
      Taken (.codePortEnable 0 e) s (wroteReply 2 19 1 (counted s)))
    ∧ (e = 1 → s.code.enable = false → Taken (.codePortEnable 0 e) s
      (wroteReply 2 19 1
        { counted s with
          code.enable := true
          code.readState := .waitIdle
          code.idleTimer := if s.code.lineHigh then some s.now else none
          code.lowSince := if s.code.lineHigh then none else some s.now }))
    ∧ (e = 0 → s.code.enable = true → ∃ u, Taken (.codePortEnable 0 e) s (wroteReply 2 19 1 u)
      ∧ u = { counted s with code := u.code }
      ∧ u.code = { s.code with
          enable := false, readState := .off, idleTimer := none, sending := none, underWay := false,
          lowSince := none, fifo := [], marks := {}, delivered := 0,
          counters.abandoned :=
            if s.code.readState = .receiving then s.code.counters.abandoned + 1 else s.code.counters.abandoned })
    ∧ (10 ≤ e.toInt → e.toInt ≤ 2550 → e.toInt % 10 = 0 →
      Taken (.settingsWrite 0 20 1 (leBytes 8 e.toNat)) s
        (wroteReply 2 20 1 { counted s with dose.ackTimeout := e.toInt.toNat }))
    ∧ (5 ≤ e.toInt → e.toInt ≤ 255 →
      Taken (.settingsWrite 0 21 1 (leBytes 8 e.toNat)) s
        (wroteReply 2 21 1 { counted s with verdict.pulseTime := e.toInt.toNat }))
    ∧ (0 ≤ e.toInt → e.toInt ≤ 255 →
      Taken (.settingsWrite 0 22 1 (leBytes 8 e.toNat)) s
        (wroteReply 2 22 1 { counted s with verdict.lostRunLimit := e.toInt.toNat }))
    ∧ (∀ m : ReportMode, ((e = 0 ∧ m = .off) ∨ (e = 1 ∧ m = .rejects) ∨ (e = 2 ∧ m = .all)) →
      Taken (.settingsWrite 0 23 1 (leBytes 8 e.toNat)) s
        (wroteReply 2 23 1 { counted s with mgmt.reportMode := m }))
    ∧ (∀ i : Byte, (i = 0 ∨ i = 1 ∨ i = 15) →
      Taken (.settingsWrite 0 i 1 (leBytes 8 e.toNat)) s (refusedReply .badValue i 2 i 1 (counted s)))
    ∧ (∀ (first count : Byte) (data : List Byte), count ≠ 0 → first.toNat + count.toNat ≤ 24 →
      data.length = 8 * count.toNat →
      let es := entriesOf 8 first.toNat count.toNat data
      ((∀ x ∈ es, settingRefusal (counted s) x = none) →
        Taken (.settingsWrite 0 first count data) s (wroteReply 2 first count (storeSettings es (counted s))))
      ∧ (∀ pre x post st, es = pre ++ x :: post → (∀ y ∈ pre, settingRefusal (counted s) y = none) →
        settingRefusal (counted s) x = some st →
        Taken (.settingsWrite 0 first count data) s
          (refusedReply st (BitVec.ofNat 8 x.1) 2 first count (counted s))))

/-- STOP REQUEST posts REQUESTED, raising STOP_SET and switching STOP on when the latch was empty; CLEAR STOP empties the
latch and switches STOP off (R177, R179, R55; that the clear counts whatever the latch held is log 28). CLEAR EVENTS
clears the latches its set names; CLEAR COUNTERS sets every counter but the can counters to 0, with the REPLY after it
counted (R190, R191), and its own request counted before it, which is the model's choice (log 29). -/
def Obligations.StopLatchEventsAndCountersClear : Prop :=
  (∀ s : State, Listening s →
    (∃ u, Taken (.stopRequest 0) s (actionAnswer 13 .ok 0 u)
      ∧ u.verdict = { s.verdict with
          stopLatch.requested := true, counters.postRequested := s.verdict.counters.postRequested + 1 }
      ∧ u.stopOn = true ∧ (s.verdict.stopLatch.isEmpty = true → u.latch .stopSet = true)
      ∧ (s.verdict.stopLatch.isEmpty = false → u.mgmt = (counted s).mgmt)
      ∧ u.track = s.track)
    ∧ (∃ u, Taken (.clearStop 0) s (actionAnswer 6 .ok 0 u)
      ∧ u = { counted s with
          verdict.stopLatch := ⟨false, false, false, false⟩
          verdict.counters.stopClears := s.verdict.counters.stopClears + 1 }
      ∧ u.stopOn = false))
  ∧ (∀ s : State, Listening s →
    (∀ set : BitVec 32, Taken (.clearEvents 0 set) s
      (actionAnswer 7 .ok 0 { counted s with mgmt.latches := s.mgmt.latches &&& ~~~(set.setWidth 18) }))
    ∧ (∃ u, Taken (.clearCounters 0) s (actionAnswer 12 .ok 0 u)
      ∧ u.ring = { s.ring with counters := {} } ∧ u.pass = { s.pass with counters := {} }
      ∧ u.input = { s.input with counters := {} } ∧ u.track = { s.track with untracked := 0 }
      ∧ u.weigh = { s.weigh with counters := {} } ∧ u.code = { s.code with counters := {} }
      ∧ u.dose = { s.dose with counters := {}, valves := s.dose.valves.map (fun x => { x with counters := {} }) }
      ∧ u.verdict = { s.verdict with counters := {} } ∧ u.mgmt = { s.mgmt with counters := {} }
      ∧ u.now = s.now ∧ u.pending = s.pending))

/-! ## Invariants -/

/-- The invariants hold at reset. -/
def Obligations.InvariantsHoldAtReset : Prop :=
  CansBalance State.reset ∧ WithinCapacity State.reset ∧ IdleHoldsNothing State.reset ∧ SerialsDistinct State.reset
    ∧ ExchangesTimed State.reset ∧ OneNotice State.reset ∧ ForwardedVerify State.reset

/-- The can counters stay in balance with the Tracking Queue at every step (R87). -/
def Obligations.CansStayBalanced : Prop :=
  ∀ s t : State, CansBalance s → step s = .next t → CansBalance t

/-- No queue outgrows its capacity at any step (R18, R19, R21, R60, R69, R130). -/
def Obligations.CapacitiesHold : Prop :=
  ∀ s t : State, WithinCapacity s → step s = .next t → WithinCapacity t

/-- The Tracking Queue stays empty in IDLE, and its serials stay distinct, at every step (R57, R60, R63). -/
def Obligations.TrackingQueueStaysSound : Prop :=
  ∀ s t : State, IdleHoldsNothing s → SerialsDistinct s → step s = .next t → IdleHoldsNothing t ∧ SerialsDistinct t

/-- A valve is in AWAIT_ACK, LOCKING or RELEASING exactly while its exchange timer runs, at every step (R159). -/
def Obligations.ExchangesStayTimed : Prop :=
  ∀ s t : State, ExchangesTimed s → step s = .next t → ExchangesTimed t

/-- At most one NOTICE waits, and none while one is pending, at every step (R192). -/
def Obligations.OneNoticeAtMost : Prop :=
  ∀ s t : State, OneNotice s → step s = .next t → OneNotice t

/-- Every forwarded frame carries a check that verifies, at every step (R9, R23, R37). -/
def Obligations.ForwardedFramesVerify : Prop :=
  ∀ s t : State, ForwardedVerify s → step s = .next t → ForwardedVerify t
end

