-- ==== Sys2Proof/Laws/Bytes.lean ====
section
/-! SUPPORT. The byte encodings of chapter 10 read back what they wrote, and the check of a built frame verifies. -/

namespace Sys2Proof.Machine

@[simp] theorem length_leBytes (n x : Nat) : (leBytes n x).length = n := by
  induction n generalizing x with
  | zero => rfl
  | succ n ih => simp [leBytes, ih]

@[simp] theorem length_leSigned (n : Nat) (x : Int) : (leSigned n x).length = n := by simp [leSigned]

/-- A number that fits its field is read back. -/
theorem leNat_leBytes (n x : Nat) (h : x < 256 ^ n) : leNat (leBytes n x) = x := by
  induction n generalizing x with
  | zero => simp at h; simp [leBytes, leNat, h]
  | succ n ih =>
    have hx : x / 256 < 256 ^ n := by rw [Nat.div_lt_iff_lt_mul (by omega)]; rw [pow_succ] at h; omega
    simp only [leBytes, leNat, ih _ hx, BitVec.toNat_ofNat]
    omega

/-- A signed number that fits its field is read back. -/
theorem leInt_leSigned (n : Nat) (x : Int) (hn : 0 < n) (lo : -(128 * 256 ^ (n - 1) : Int) ≤ x)
    (hi : x < 128 * 256 ^ (n - 1)) : leInt (leSigned n x) = x := by
  obtain ⟨m, rfl⟩ : ∃ m, n = m + 1 := ⟨n - 1, by omega⟩
  simp only [Nat.add_sub_cancel] at lo hi
  have hp : (256 : Int) ^ (m + 1) = 256 * 256 ^ m := by rw [pow_succ]; ring
  have hm : (0 : Int) < 256 ^ m := by positivity
  generalize hq : (256 : Int) ^ m = q at lo hi hp hm
  have hmod : x.emod ((256 ^ (m + 1) : Nat) : Int) = if 0 ≤ x then x else x + 256 * q := by
    have hc : ((256 ^ (m + 1) : Nat) : Int) = 256 * q := by push_cast; rw [← hp]
    rw [hc]
    split
    · exact Int.emod_eq_of_lt (by assumption) (by omega)
    · have hadd : x.emod (256 * q) = (x + 256 * q).emod (256 * q) := (Int.add_emod_right x (256 * q)).symm
      rw [hadd]
      exact Int.emod_eq_of_lt (by omega) (by omega)
  have hk : ((256 ^ (m + 1) : Nat) : Int) = 256 * q := by push_cast; rw [← hp]
  have hr : leNat (leSigned (m + 1) x) = (x.emod ((256 ^ (m + 1) : Nat) : Int)).toNat := by
    unfold leSigned
    apply leNat_leBytes
    have := Int.emod_lt_of_pos x (show (0 : Int) < ((256 ^ (m + 1) : Nat) : Int) by positivity)
    have h0 := Int.emod_nonneg x (show ((256 ^ (m + 1) : Nat) : Int) ≠ 0 by positivity)
    have e : x.emod ((256 ^ (m + 1) : Nat) : Int) = x % ((256 ^ (m + 1) : Nat) : Int) := rfl
    omega
  unfold leInt
  simp only [hr, hmod, length_leSigned]
  have hcut : (2 * (if 0 ≤ x then x else x + 256 * q).toNat < 256 ^ (m + 1)) ↔ 0 ≤ x := by
    constructor
    · intro h
      have h' : (2 * ((if 0 ≤ x then x else x + 256 * q).toNat : Int)) < ((256 ^ (m + 1) : Nat) : Int) := by
        exact_mod_cast h
      rw [hk] at h'
      by_contra hx
      simp only [hx, if_false] at h'
      omega
    · intro hx
      have h' : (2 * ((if 0 ≤ x then x else x + 256 * q).toNat : Int)) < ((256 ^ (m + 1) : Nat) : Int) := by
        rw [hk]; simp only [hx, if_true]; omega
      exact_mod_cast h'
  by_cases hx : 0 ≤ x
  · rw [if_pos (hcut.mpr hx)]; simp only [hx, if_true]; omega
  · rw [if_neg (fun h => hx (hcut.mp h)), hk]; simp only [hx, if_false]; omega

/-- A 64-bit entry is read back as the signed number it is (Table 10-10). -/
theorem leInt_leBytes64 (e : BitVec 64) : leInt (leBytes 8 e.toNat) = e.toInt := by
  have h := leNat_leBytes 8 e.toNat e.isLt
  simp only [leInt, h, length_leBytes, BitVec.toInt]
  split <;> split <;> first | rfl | omega

/-- A bit into the check that is its own lowest bit shifts it (R10). -/
theorem checkBit_own (r : BitVec 16) : checkBit r (r.getLsbD 0) = r >>> 1 := by simp [checkBit]

/-- A byte into the check that is its own low byte shifts it out (R10). -/
theorem checkByte_own (r : BitVec 16) : checkByte r (BitVec.ofNat 8 r.toNat) = r >>> 8 := by
  have step (k : Nat) (hk : k < 8) :
      checkBit (r >>> k) ((BitVec.ofNat 8 r.toNat).getLsbD k) = r >>> (k + 1) := by
    have hb : (BitVec.ofNat 8 r.toNat).getLsbD k = (r >>> k).getLsbD 0 := by
      simp only [BitVec.getLsbD, BitVec.toNat_ofNat, BitVec.toNat_ushiftRight, Nat.testBit_shiftRight, Nat.add_zero]
      rw [Nat.testBit_mod_two_pow, decide_eq_true hk, Bool.true_and]
    rw [hb, checkBit_own, BitVec.shiftRight_add]
  have h0 := step 0 (by omega)
  simp only [BitVec.ushiftRight_zero] at h0
  simp only [checkByte, List.foldl_cons, List.foldl_nil, h0, step 1 (by omega), step 2 (by omega), step 3 (by omega),
    step 4 (by omega), step 5 (by omega), step 6 (by omega), step 7 (by omega)]

/-- The check verifies on every run of bytes with its length character and its check behind it (R9, R23). -/
theorem checkVerifies_withCheck (bs : List Byte) (h : bs.length = 4 + frameLength bs) :
    checkVerifies (withCheck bs) = true := by
  have hl : frameLength (withCheck bs) = frameLength bs := by
    simp only [frameLength, byteAt, withCheck, List.getD_append _ _ _ _ (show 3 < bs.length by omega)]
  have ht : (withCheck bs).take (4 + frameLength bs) = bs := by simp [withCheck, ← h]
  have hd : (withCheck bs).drop (4 + frameLength bs) = leBytes 2 (checkOf bs).toNat := by simp [withCheck, ← h]
  unfold checkVerifies checkedPart slice
  rw [hl, ht, hd, List.take_of_length_le (by simp), leNat_leBytes 2 _ (checkOf bs).isLt]
  simp

end Sys2Proof.Machine
end

