-- ==== Sys2Proof/Laws/State.lean ====
section
/-! SUPPORT. One lemma per field for every named update of the state, true by rfl: no later proof unfolds a record update. -/

namespace Sys2Proof.Machine

/-! ## advanceTo -/

@[simp] theorem advanceTo_now (t : Ticks) (s : State) : (advanceTo t s).now = max s.now t := rfl
@[simp] theorem advanceTo_resetLow (t : Ticks) (s : State) : (advanceTo t s).resetLow = s.resetLow := rfl
@[simp] theorem advanceTo_ring (t : Ticks) (s : State) : (advanceTo t s).ring = s.ring := rfl
@[simp] theorem advanceTo_pass (t : Ticks) (s : State) : (advanceTo t s).pass = s.pass := rfl
@[simp] theorem advanceTo_input (t : Ticks) (s : State) : (advanceTo t s).input = s.input := rfl
@[simp] theorem advanceTo_track (t : Ticks) (s : State) : (advanceTo t s).track = s.track := rfl
@[simp] theorem advanceTo_weigh (t : Ticks) (s : State) : (advanceTo t s).weigh = s.weigh := rfl
@[simp] theorem advanceTo_code (t : Ticks) (s : State) : (advanceTo t s).code = s.code := rfl
@[simp] theorem advanceTo_dose (t : Ticks) (s : State) : (advanceTo t s).dose = s.dose := rfl
@[simp] theorem advanceTo_verdict (t : Ticks) (s : State) : (advanceTo t s).verdict = s.verdict := rfl
@[simp] theorem advanceTo_mgmt (t : Ticks) (s : State) : (advanceTo t s).mgmt = s.mgmt := rfl
@[simp] theorem advanceTo_pending (t : Ticks) (s : State) : (advanceTo t s).pending = s.pending := rfl

/-! ## setValve -/

@[simp] theorem setValve_now (v : Nat) (x : Valve) (s : State) : (setValve v x s).now = s.now := rfl
@[simp] theorem setValve_resetLow (v : Nat) (x : Valve) (s : State) : (setValve v x s).resetLow = s.resetLow := rfl
@[simp] theorem setValve_ring (v : Nat) (x : Valve) (s : State) : (setValve v x s).ring = s.ring := rfl
@[simp] theorem setValve_pass (v : Nat) (x : Valve) (s : State) : (setValve v x s).pass = s.pass := rfl
@[simp] theorem setValve_input (v : Nat) (x : Valve) (s : State) : (setValve v x s).input = s.input := rfl
@[simp] theorem setValve_track (v : Nat) (x : Valve) (s : State) : (setValve v x s).track = s.track := rfl
@[simp] theorem setValve_weigh (v : Nat) (x : Valve) (s : State) : (setValve v x s).weigh = s.weigh := rfl
@[simp] theorem setValve_code (v : Nat) (x : Valve) (s : State) : (setValve v x s).code = s.code := rfl
@[simp] theorem setValve_dose (v : Nat) (x : Valve) (s : State) :
    (setValve v x s).dose = { s.dose with valves := s.dose.valves.set (v - 1) x } := rfl
@[simp] theorem setValve_verdict (v : Nat) (x : Valve) (s : State) : (setValve v x s).verdict = s.verdict := rfl
@[simp] theorem setValve_mgmt (v : Nat) (x : Valve) (s : State) : (setValve v x s).mgmt = s.mgmt := rfl
@[simp] theorem setValve_pending (v : Nat) (x : Valve) (s : State) : (setValve v x s).pending = s.pending := rfl

/-! ## modifyValve -/

@[simp] theorem modifyValve_now (v : Nat) (f : Valve → Valve) (s : State) : (modifyValve v f s).now = s.now := rfl
@[simp] theorem modifyValve_resetLow (v : Nat) (f : Valve → Valve) (s : State) :
    (modifyValve v f s).resetLow = s.resetLow := rfl
@[simp] theorem modifyValve_ring (v : Nat) (f : Valve → Valve) (s : State) : (modifyValve v f s).ring = s.ring := rfl
@[simp] theorem modifyValve_pass (v : Nat) (f : Valve → Valve) (s : State) : (modifyValve v f s).pass = s.pass := rfl
@[simp] theorem modifyValve_input (v : Nat) (f : Valve → Valve) (s : State) :
    (modifyValve v f s).input = s.input := rfl
@[simp] theorem modifyValve_track (v : Nat) (f : Valve → Valve) (s : State) :
    (modifyValve v f s).track = s.track := rfl
@[simp] theorem modifyValve_weigh (v : Nat) (f : Valve → Valve) (s : State) :
    (modifyValve v f s).weigh = s.weigh := rfl
@[simp] theorem modifyValve_code (v : Nat) (f : Valve → Valve) (s : State) : (modifyValve v f s).code = s.code := rfl
@[simp] theorem modifyValve_dose (v : Nat) (f : Valve → Valve) (s : State) :
    (modifyValve v f s).dose = { s.dose with valves := s.dose.valves.set (v - 1) (f (s.valve v)) } := rfl
@[simp] theorem modifyValve_verdict (v : Nat) (f : Valve → Valve) (s : State) :
    (modifyValve v f s).verdict = s.verdict := rfl
@[simp] theorem modifyValve_mgmt (v : Nat) (f : Valve → Valve) (s : State) : (modifyValve v f s).mgmt = s.mgmt := rfl
@[simp] theorem modifyValve_pending (v : Nat) (f : Valve → Valve) (s : State) :
    (modifyValve v f s).pending = s.pending := rfl

/-! ## writeRecord -/

@[simp] theorem writeRecord_now (n : Serial) (f : CanRecord → CanRecord) (s : State) :
    (writeRecord n f s).now = s.now := rfl
@[simp] theorem writeRecord_resetLow (n : Serial) (f : CanRecord → CanRecord) (s : State) :
    (writeRecord n f s).resetLow = s.resetLow := rfl
@[simp] theorem writeRecord_ring (n : Serial) (f : CanRecord → CanRecord) (s : State) :
    (writeRecord n f s).ring = s.ring := rfl
@[simp] theorem writeRecord_pass (n : Serial) (f : CanRecord → CanRecord) (s : State) :
    (writeRecord n f s).pass = s.pass := rfl
@[simp] theorem writeRecord_input (n : Serial) (f : CanRecord → CanRecord) (s : State) :
    (writeRecord n f s).input = s.input := rfl
@[simp] theorem writeRecord_track (n : Serial) (f : CanRecord → CanRecord) (s : State) :
    (writeRecord n f s).track = { s.track with queue := updateRecord n f s.track.queue } := rfl
@[simp] theorem writeRecord_weigh (n : Serial) (f : CanRecord → CanRecord) (s : State) :
    (writeRecord n f s).weigh = s.weigh := rfl
@[simp] theorem writeRecord_code (n : Serial) (f : CanRecord → CanRecord) (s : State) :
    (writeRecord n f s).code = s.code := rfl
@[simp] theorem writeRecord_dose (n : Serial) (f : CanRecord → CanRecord) (s : State) :
    (writeRecord n f s).dose = s.dose := rfl
@[simp] theorem writeRecord_verdict (n : Serial) (f : CanRecord → CanRecord) (s : State) :
    (writeRecord n f s).verdict = s.verdict := rfl
@[simp] theorem writeRecord_mgmt (n : Serial) (f : CanRecord → CanRecord) (s : State) :
    (writeRecord n f s).mgmt = s.mgmt := rfl
@[simp] theorem writeRecord_pending (n : Serial) (f : CanRecord → CanRecord) (s : State) :
    (writeRecord n f s).pending = s.pending := rfl

/-! ## markStale -/

@[simp] theorem markStale_now (v : Nat) (s : State) : (markStale v s).now = s.now := rfl
@[simp] theorem markStale_resetLow (v : Nat) (s : State) : (markStale v s).resetLow = s.resetLow := rfl
@[simp] theorem markStale_ring (v : Nat) (s : State) : (markStale v s).ring = s.ring := rfl
@[simp] theorem markStale_pass (v : Nat) (s : State) : (markStale v s).pass = s.pass := rfl
@[simp] theorem markStale_input (v : Nat) (s : State) : (markStale v s).input = s.input := rfl
@[simp] theorem markStale_track (v : Nat) (s : State) :
    (markStale v s).track = { s.track with
      queue := s.track.queue.map (fun r => if r.valve == v then { r with stale := true } else r) } := rfl
@[simp] theorem markStale_weigh (v : Nat) (s : State) : (markStale v s).weigh = s.weigh := rfl
@[simp] theorem markStale_code (v : Nat) (s : State) : (markStale v s).code = s.code := rfl
@[simp] theorem markStale_dose (v : Nat) (s : State) : (markStale v s).dose = s.dose := rfl
@[simp] theorem markStale_verdict (v : Nat) (s : State) : (markStale v s).verdict = s.verdict := rfl
@[simp] theorem markStale_mgmt (v : Nat) (s : State) : (markStale v s).mgmt = s.mgmt := rfl
@[simp] theorem markStale_pending (v : Nat) (s : State) : (markStale v s).pending = s.pending := rfl

/-! ## markAllStale -/

@[simp] theorem markAllStale_now (s : State) : (markAllStale s).now = s.now := rfl
@[simp] theorem markAllStale_resetLow (s : State) : (markAllStale s).resetLow = s.resetLow := rfl
@[simp] theorem markAllStale_ring (s : State) : (markAllStale s).ring = s.ring := rfl
@[simp] theorem markAllStale_pass (s : State) : (markAllStale s).pass = s.pass := rfl
@[simp] theorem markAllStale_input (s : State) : (markAllStale s).input = s.input := rfl
@[simp] theorem markAllStale_track (s : State) :
    (markAllStale s).track = { s.track with
      queue := s.track.queue.map (fun r => if r.valve == 0 then r else { r with stale := true }) } := rfl
@[simp] theorem markAllStale_weigh (s : State) : (markAllStale s).weigh = s.weigh := rfl
@[simp] theorem markAllStale_code (s : State) : (markAllStale s).code = s.code := rfl
@[simp] theorem markAllStale_dose (s : State) : (markAllStale s).dose = s.dose := rfl
@[simp] theorem markAllStale_verdict (s : State) : (markAllStale s).verdict = s.verdict := rfl
@[simp] theorem markAllStale_mgmt (s : State) : (markAllStale s).mgmt = s.mgmt := rfl
@[simp] theorem markAllStale_pending (s : State) : (markAllStale s).pending = s.pending := rfl

/-! ## joinQueue -/

@[simp] theorem joinQueue_now (r : CanRecord) (s : State) : (joinQueue r s).now = s.now := rfl
@[simp] theorem joinQueue_resetLow (r : CanRecord) (s : State) : (joinQueue r s).resetLow = s.resetLow := rfl
@[simp] theorem joinQueue_ring (r : CanRecord) (s : State) : (joinQueue r s).ring = s.ring := rfl
@[simp] theorem joinQueue_pass (r : CanRecord) (s : State) : (joinQueue r s).pass = s.pass := rfl
@[simp] theorem joinQueue_input (r : CanRecord) (s : State) : (joinQueue r s).input = s.input := rfl
@[simp] theorem joinQueue_track (r : CanRecord) (s : State) :
    (joinQueue r s).track = { s.track with queue := insertByOrigin r s.track.queue, nextSerial := r.serial + 1 } := rfl
@[simp] theorem joinQueue_weigh (r : CanRecord) (s : State) : (joinQueue r s).weigh = s.weigh := rfl
@[simp] theorem joinQueue_code (r : CanRecord) (s : State) : (joinQueue r s).code = s.code := rfl
@[simp] theorem joinQueue_dose (r : CanRecord) (s : State) : (joinQueue r s).dose = s.dose := rfl
@[simp] theorem joinQueue_verdict (r : CanRecord) (s : State) : (joinQueue r s).verdict = s.verdict := rfl
@[simp] theorem joinQueue_mgmt (r : CanRecord) (s : State) : (joinQueue r s).mgmt = s.mgmt := rfl
@[simp] theorem joinQueue_pending (r : CanRecord) (s : State) : (joinQueue r s).pending = s.pending := rfl

/-! ## discardTracking -/

@[simp] theorem discardTracking_now (s : State) : (discardTracking s).now = s.now := rfl
@[simp] theorem discardTracking_resetLow (s : State) : (discardTracking s).resetLow = s.resetLow := rfl
@[simp] theorem discardTracking_ring (s : State) : (discardTracking s).ring = s.ring := rfl
@[simp] theorem discardTracking_pass (s : State) : (discardTracking s).pass = s.pass := rfl
@[simp] theorem discardTracking_input (s : State) : (discardTracking s).input = s.input := rfl
@[simp] theorem discardTracking_track (s : State) : (discardTracking s).track = s.track := rfl
@[simp] theorem discardTracking_weigh (s : State) :
    (discardTracking s).weigh = { s.weigh with block := SampleBlock.empty, run := TrackingRun.empty } := rfl
@[simp] theorem discardTracking_code (s : State) : (discardTracking s).code = s.code := rfl
@[simp] theorem discardTracking_dose (s : State) : (discardTracking s).dose = s.dose := rfl
@[simp] theorem discardTracking_verdict (s : State) : (discardTracking s).verdict = s.verdict := rfl
@[simp] theorem discardTracking_mgmt (s : State) : (discardTracking s).mgmt = s.mgmt := rfl
@[simp] theorem discardTracking_pending (s : State) : (discardTracking s).pending = s.pending := rfl

/-! ## emptyRead -/

@[simp] theorem emptyRead_now (s : State) : (emptyRead s).now = s.now := rfl
@[simp] theorem emptyRead_resetLow (s : State) : (emptyRead s).resetLow = s.resetLow := rfl
@[simp] theorem emptyRead_ring (s : State) : (emptyRead s).ring = s.ring := rfl
@[simp] theorem emptyRead_pass (s : State) : (emptyRead s).pass = s.pass := rfl
@[simp] theorem emptyRead_input (s : State) : (emptyRead s).input = s.input := rfl
@[simp] theorem emptyRead_track (s : State) : (emptyRead s).track = s.track := rfl
@[simp] theorem emptyRead_weigh (s : State) : (emptyRead s).weigh = s.weigh := rfl
@[simp] theorem emptyRead_code (s : State) :
    (emptyRead s).code = { s.code with fifo := [], marks := {}, delivered := 0 } := rfl
@[simp] theorem emptyRead_dose (s : State) : (emptyRead s).dose = s.dose := rfl
@[simp] theorem emptyRead_verdict (s : State) : (emptyRead s).verdict = s.verdict := rfl
@[simp] theorem emptyRead_mgmt (s : State) : (emptyRead s).mgmt = s.mgmt := rfl
@[simp] theorem emptyRead_pending (s : State) : (emptyRead s).pending = s.pending := rfl

/-! ## modifyFilter -/

@[simp] theorem modifyFilter_now (i : Input) (f : InputFilter → InputFilter) (s : State) :
    (modifyFilter i f s).now = s.now := rfl
@[simp] theorem modifyFilter_resetLow (i : Input) (f : InputFilter → InputFilter) (s : State) :
    (modifyFilter i f s).resetLow = s.resetLow := rfl
@[simp] theorem modifyFilter_ring (i : Input) (f : InputFilter → InputFilter) (s : State) :
    (modifyFilter i f s).ring = s.ring := rfl
@[simp] theorem modifyFilter_pass (i : Input) (f : InputFilter → InputFilter) (s : State) :
    (modifyFilter i f s).pass = s.pass := rfl
@[simp] theorem modifyFilter_input (i : Input) (f : InputFilter → InputFilter) (s : State) :
    (modifyFilter i f s).input = s.input.setFilter i (f (s.input.filterOf i)) := rfl
@[simp] theorem modifyFilter_track (i : Input) (f : InputFilter → InputFilter) (s : State) :
    (modifyFilter i f s).track = s.track := rfl
@[simp] theorem modifyFilter_weigh (i : Input) (f : InputFilter → InputFilter) (s : State) :
    (modifyFilter i f s).weigh = s.weigh := rfl
@[simp] theorem modifyFilter_code (i : Input) (f : InputFilter → InputFilter) (s : State) :
    (modifyFilter i f s).code = s.code := rfl
@[simp] theorem modifyFilter_dose (i : Input) (f : InputFilter → InputFilter) (s : State) :
    (modifyFilter i f s).dose = s.dose := rfl
@[simp] theorem modifyFilter_verdict (i : Input) (f : InputFilter → InputFilter) (s : State) :
    (modifyFilter i f s).verdict = s.verdict := rfl
@[simp] theorem modifyFilter_mgmt (i : Input) (f : InputFilter → InputFilter) (s : State) :
    (modifyFilter i f s).mgmt = s.mgmt := rfl
@[simp] theorem modifyFilter_pending (i : Input) (f : InputFilter → InputFilter) (s : State) :
    (modifyFilter i f s).pending = s.pending := rfl

/-! ## ringLineReset -/

@[simp] theorem ringLineReset_now (s : State) : (ringLineReset s).now = s.now := rfl
@[simp] theorem ringLineReset_resetLow (s : State) : (ringLineReset s).resetLow = s.resetLow := rfl
@[simp] theorem ringLineReset_ring (s : State) :
    (ringLineReset s).ring = { s.ring with assembler := .waitMark, forward := [], urgent := [], routine := [] } := rfl
@[simp] theorem ringLineReset_pass (s : State) : (ringLineReset s).pass = s.pass := rfl
@[simp] theorem ringLineReset_input (s : State) : (ringLineReset s).input = s.input := rfl
@[simp] theorem ringLineReset_track (s : State) : (ringLineReset s).track = s.track := rfl
@[simp] theorem ringLineReset_weigh (s : State) : (ringLineReset s).weigh = s.weigh := rfl
@[simp] theorem ringLineReset_code (s : State) : (ringLineReset s).code = s.code := rfl
@[simp] theorem ringLineReset_dose (s : State) : (ringLineReset s).dose = s.dose := rfl
@[simp] theorem ringLineReset_verdict (s : State) : (ringLineReset s).verdict = s.verdict := rfl
@[simp] theorem ringLineReset_mgmt (s : State) : (ringLineReset s).mgmt = s.mgmt := rfl
@[simp] theorem ringLineReset_pending (s : State) : (ringLineReset s).pending = s.pending := rfl

/-! ## inputLineReset -/

@[simp] theorem inputLineReset_now (s : State) : (inputLineReset s).now = s.now := rfl
@[simp] theorem inputLineReset_resetLow (s : State) : (inputLineReset s).resetLow = s.resetLow := rfl
@[simp] theorem inputLineReset_ring (s : State) : (inputLineReset s).ring = s.ring := rfl
@[simp] theorem inputLineReset_pass (s : State) : (inputLineReset s).pass = s.pass := rfl
@[simp] theorem inputLineReset_input (s : State) :
    (inputLineReset s).input = { s.input with index := .unknown } := rfl
@[simp] theorem inputLineReset_track (s : State) : (inputLineReset s).track = s.track := rfl
@[simp] theorem inputLineReset_weigh (s : State) : (inputLineReset s).weigh = s.weigh := rfl
@[simp] theorem inputLineReset_code (s : State) : (inputLineReset s).code = s.code := rfl
@[simp] theorem inputLineReset_dose (s : State) : (inputLineReset s).dose = s.dose := rfl
@[simp] theorem inputLineReset_verdict (s : State) : (inputLineReset s).verdict = s.verdict := rfl
@[simp] theorem inputLineReset_mgmt (s : State) : (inputLineReset s).mgmt = s.mgmt := rfl
@[simp] theorem inputLineReset_pending (s : State) : (inputLineReset s).pending = s.pending := rfl

/-! ## verdictLineReset -/

@[simp] theorem verdictLineReset_now (s : State) : (verdictLineReset s).now = s.now := rfl
@[simp] theorem verdictLineReset_resetLow (s : State) : (verdictLineReset s).resetLow = s.resetLow := rfl
@[simp] theorem verdictLineReset_ring (s : State) : (verdictLineReset s).ring = s.ring := rfl
@[simp] theorem verdictLineReset_pass (s : State) : (verdictLineReset s).pass = s.pass := rfl
@[simp] theorem verdictLineReset_input (s : State) : (verdictLineReset s).input = s.input := rfl
@[simp] theorem verdictLineReset_track (s : State) : (verdictLineReset s).track = s.track := rfl
@[simp] theorem verdictLineReset_weigh (s : State) : (verdictLineReset s).weigh = s.weigh := rfl
@[simp] theorem verdictLineReset_code (s : State) : (verdictLineReset s).code = s.code := rfl
@[simp] theorem verdictLineReset_dose (s : State) : (verdictLineReset s).dose = s.dose := rfl
@[simp] theorem verdictLineReset_verdict (s : State) :
    (verdictLineReset s).verdict = { s.verdict with pulse := none, lostRun := 0 } := rfl
@[simp] theorem verdictLineReset_mgmt (s : State) : (verdictLineReset s).mgmt = s.mgmt := rfl
@[simp] theorem verdictLineReset_pending (s : State) : (verdictLineReset s).pending = s.pending := rfl

/-! ## lostRunMatched -/

@[simp] theorem lostRunMatched_now (s : State) : (lostRunMatched s).now = s.now := rfl
@[simp] theorem lostRunMatched_resetLow (s : State) : (lostRunMatched s).resetLow = s.resetLow := rfl
@[simp] theorem lostRunMatched_ring (s : State) : (lostRunMatched s).ring = s.ring := rfl
@[simp] theorem lostRunMatched_pass (s : State) : (lostRunMatched s).pass = s.pass := rfl
@[simp] theorem lostRunMatched_input (s : State) : (lostRunMatched s).input = s.input := rfl
@[simp] theorem lostRunMatched_track (s : State) : (lostRunMatched s).track = s.track := rfl
@[simp] theorem lostRunMatched_weigh (s : State) : (lostRunMatched s).weigh = s.weigh := rfl
@[simp] theorem lostRunMatched_code (s : State) : (lostRunMatched s).code = s.code := rfl
@[simp] theorem lostRunMatched_dose (s : State) : (lostRunMatched s).dose = s.dose := rfl
@[simp] theorem lostRunMatched_verdict (s : State) :
    (lostRunMatched s).verdict = { s.verdict with lostRun := 0 } := rfl
@[simp] theorem lostRunMatched_mgmt (s : State) : (lostRunMatched s).mgmt = s.mgmt := rfl
@[simp] theorem lostRunMatched_pending (s : State) : (lostRunMatched s).pending = s.pending := rfl

/-! ## clearStopLatch -/

@[simp] theorem clearStopLatch_now (s : State) : (clearStopLatch s).now = s.now := rfl
@[simp] theorem clearStopLatch_resetLow (s : State) : (clearStopLatch s).resetLow = s.resetLow := rfl
@[simp] theorem clearStopLatch_ring (s : State) : (clearStopLatch s).ring = s.ring := rfl
@[simp] theorem clearStopLatch_pass (s : State) : (clearStopLatch s).pass = s.pass := rfl
@[simp] theorem clearStopLatch_input (s : State) : (clearStopLatch s).input = s.input := rfl
@[simp] theorem clearStopLatch_track (s : State) : (clearStopLatch s).track = s.track := rfl
@[simp] theorem clearStopLatch_weigh (s : State) : (clearStopLatch s).weigh = s.weigh := rfl
@[simp] theorem clearStopLatch_code (s : State) : (clearStopLatch s).code = s.code := rfl
@[simp] theorem clearStopLatch_dose (s : State) : (clearStopLatch s).dose = s.dose := rfl
@[simp] theorem clearStopLatch_verdict (s : State) :
    (clearStopLatch s).verdict = { s.verdict with
      stopLatch := {}, counters.stopClears := s.verdict.counters.stopClears + 1 } := rfl
@[simp] theorem clearStopLatch_mgmt (s : State) : (clearStopLatch s).mgmt = s.mgmt := rfl
@[simp] theorem clearStopLatch_pending (s : State) : (clearStopLatch s).pending = s.pending := rfl

/-! ## startFrame -/

@[simp] theorem startFrame_now (data : Byte) (noisy : Bool) (s : State) : (startFrame data noisy s).now = s.now := rfl
@[simp] theorem startFrame_resetLow (data : Byte) (noisy : Bool) (s : State) :
    (startFrame data noisy s).resetLow = s.resetLow := rfl
@[simp] theorem startFrame_ring (data : Byte) (noisy : Bool) (s : State) :
    (startFrame data noisy s).ring = { s.ring with assembler := .receiving [data] noisy s.now } := rfl
@[simp] theorem startFrame_pass (data : Byte) (noisy : Bool) (s : State) :
    (startFrame data noisy s).pass = s.pass := rfl
@[simp] theorem startFrame_input (data : Byte) (noisy : Bool) (s : State) :
    (startFrame data noisy s).input = s.input := rfl
@[simp] theorem startFrame_track (data : Byte) (noisy : Bool) (s : State) :
    (startFrame data noisy s).track = s.track := rfl
@[simp] theorem startFrame_weigh (data : Byte) (noisy : Bool) (s : State) :
    (startFrame data noisy s).weigh = s.weigh := rfl
@[simp] theorem startFrame_code (data : Byte) (noisy : Bool) (s : State) :
    (startFrame data noisy s).code = s.code := rfl
@[simp] theorem startFrame_dose (data : Byte) (noisy : Bool) (s : State) :
    (startFrame data noisy s).dose = s.dose := rfl
@[simp] theorem startFrame_verdict (data : Byte) (noisy : Bool) (s : State) :
    (startFrame data noisy s).verdict = s.verdict := rfl
@[simp] theorem startFrame_mgmt (data : Byte) (noisy : Bool) (s : State) :
    (startFrame data noisy s).mgmt = s.mgmt := rfl
@[simp] theorem startFrame_pending (data : Byte) (noisy : Bool) (s : State) :
    (startFrame data noisy s).pending = s.pending := rfl

/-! ## counted -/

@[simp] theorem counted_now (s : State) : (counted s).now = s.now := rfl
@[simp] theorem counted_resetLow (s : State) : (counted s).resetLow = s.resetLow := rfl
@[simp] theorem counted_ring (s : State) : (counted s).ring = s.ring := rfl
@[simp] theorem counted_pass (s : State) : (counted s).pass = s.pass := rfl
@[simp] theorem counted_input (s : State) : (counted s).input = s.input := rfl
@[simp] theorem counted_track (s : State) : (counted s).track = s.track := rfl
@[simp] theorem counted_weigh (s : State) : (counted s).weigh = s.weigh := rfl
@[simp] theorem counted_code (s : State) : (counted s).code = s.code := rfl
@[simp] theorem counted_dose (s : State) : (counted s).dose = s.dose := rfl
@[simp] theorem counted_verdict (s : State) : (counted s).verdict = s.verdict := rfl
@[simp] theorem counted_mgmt (s : State) :
    (counted s).mgmt = { s.mgmt with counters.requests := s.mgmt.counters.requests + 1 } := rfl
@[simp] theorem counted_pending (s : State) : (counted s).pending = s.pending := rfl

end Sys2Proof.Machine
end

