-- ==== Sys2Proof/Laws/Ops.lean ====
section
/-! SUPPORT. One lemma per shared operation that says everything it can do: the frame around an event, the ring queues and
the arbiter, event latches, replies, ring faults, requests and table writes, records, the encoder and the sample port,
and the characters as they are sent. -/

namespace Sys2Proof.Machine

/-! ## The frame around an event -/

theorem event_awake {f : State → State} {s : State} (h : s.resetLow = false) : event f s = .next (arbitrate (f s)) := by
  simp [event, h]

theorem event_asleep {f : State → State} {s : State} (h : s.resetLow = true) : event f s = .next s := by
  simp [event, h]

/-- Every command but the two of the RESET pin is an event. -/
theorem exec_eq_event (c : Instr) :
    (∃ p, c = .hardReset p) ∨ c = .resetAsserted ∨ ∃ f : State → State, ∀ s, exec c s = event f s := by
  cases c <;> first
    | exact .inl ⟨_, rfl⟩
    | exact .inr (.inl rfl)
    | exact .inr (.inr ⟨_, fun _ => rfl⟩)

/-- A command is taken when its event, on a part that is awake, gives the state claimed. -/
theorem taken_of_event {c : Instr} {f : State → State} {s t : State} (hc : exec c s = event f s) (h : Awake s)
    (ht : f s = t) : Taken c s t := by
  rw [Taken, hc, event_awake h, ht]

/-- A request from the supervisor is counted and performed (R183). -/
theorem takeRequest_supervisor {kind : Byte} {perform : State → State} {s : State} (h : repeaterOnly s = false) :
    takeRequest 0 kind perform s = perform (counted s) := by
  simp [takeRequest, h, counted]

/-- A request command from the supervisor is taken when its unit gives the state claimed. -/
theorem taken_of_request {c : Instr} {kind : Byte} {perform : State → State} {s t : State}
    (hc : exec c s = event (takeRequest 0 kind perform) s) (h : Listening s) (ht : perform (counted s) = t) :
    Taken c s t := by
  rw [Taken, hc, event_awake h.1, takeRequest_supervisor h.2, ht]

/-! ## The arbiter (R22) -/

/-- The arbiter changes the transmitter, the pending relay, the three queues and the retry mark, and nothing else. -/
theorem arbitrate_frame (s : State) :
    arbitrate s = { s with
      ring := { s.ring with
        relayPending := (arbitrate s).ring.relayPending, tx := (arbitrate s).ring.tx,
        forward := (arbitrate s).ring.forward, urgent := (arbitrate s).ring.urgent,
        routine := (arbitrate s).ring.routine }
      mgmt.noticeRetryDue := (arbitrate s).mgmt.noticeRetryDue } := by
  unfold arbitrate; repeat' split
  all_goals rfl

@[simp] theorem arbitrate_now (s : State) : (arbitrate s).now = s.now := by rw [arbitrate_frame]
@[simp] theorem arbitrate_resetLow (s : State) : (arbitrate s).resetLow = s.resetLow := by rw [arbitrate_frame]
@[simp] theorem arbitrate_pass (s : State) : (arbitrate s).pass = s.pass := by rw [arbitrate_frame]
@[simp] theorem arbitrate_input (s : State) : (arbitrate s).input = s.input := by rw [arbitrate_frame]
@[simp] theorem arbitrate_track (s : State) : (arbitrate s).track = s.track := by rw [arbitrate_frame]
@[simp] theorem arbitrate_weigh (s : State) : (arbitrate s).weigh = s.weigh := by rw [arbitrate_frame]
@[simp] theorem arbitrate_code (s : State) : (arbitrate s).code = s.code := by rw [arbitrate_frame]
@[simp] theorem arbitrate_dose (s : State) : (arbitrate s).dose = s.dose := by rw [arbitrate_frame]
@[simp] theorem arbitrate_verdict (s : State) : (arbitrate s).verdict = s.verdict := by rw [arbitrate_frame]
@[simp] theorem arbitrate_pending (s : State) : (arbitrate s).pending = s.pending := by rw [arbitrate_frame]

/-- The arbiter only takes from the queues. -/
theorem arbitrate_suffix (s : State) :
    (arbitrate s).ring.forward <:+ s.ring.forward ∧ (arbitrate s).ring.urgent <:+ s.ring.urgent
      ∧ (arbitrate s).ring.routine <:+ s.ring.routine := by
  unfold arbitrate; repeat' split
  all_goals simp_all [List.suffix_cons]

/-! ## Appends (R19, R21, R28) -/

theorem appendUrgent_cases (f : OwnFrame) (s : State) :
    (appendUrgent f s = (false, s) ∧ (repeaterOnly s = true ∨ 8 ≤ s.ring.urgent.length)) ∨
    (appendUrgent f s = (true, { s with ring.urgent := s.ring.urgent ++ [f] }) ∧ repeaterOnly s = false
      ∧ s.ring.urgent.length < 8) := by
  by_cases h : repeaterOnly s = true
  · exact .inl ⟨by simp [appendUrgent, h], .inl h⟩
  · by_cases hl : 8 ≤ s.ring.urgent.length
    · exact .inl ⟨by simp [appendUrgent, Config.urgentCapacity, hl], .inr hl⟩
    · exact .inr ⟨by simp [appendUrgent, Config.urgentCapacity, hl, h], by simpa using h, by omega⟩

theorem appendUrgent_room {f : OwnFrame} {s : State} (h : repeaterOnly s = false) (hl : s.ring.urgent.length < 8) :
    appendUrgent f s = (true, { s with ring.urgent := s.ring.urgent ++ [f] }) := by
  simp [appendUrgent, Config.urgentCapacity, h, Nat.not_le.mpr hl]

theorem appendUrgent_full {f : OwnFrame} {s : State} (hl : 8 ≤ s.ring.urgent.length) :
    appendUrgent f s = (false, s) := by
  simp [appendUrgent, Config.urgentCapacity, hl]

theorem appendRoutine_cases (f : RoutineFrame) (s : State) :
    (appendRoutine f s = (false, s) ∧ (repeaterOnly s = true ∨ 8 ≤ s.ring.routine.length)) ∨
    (appendRoutine f s = (true, { s with ring.routine := s.ring.routine ++ [f] }) ∧ repeaterOnly s = false
      ∧ s.ring.routine.length < 8) := by
  by_cases h : repeaterOnly s = true
  · exact .inl ⟨by simp [appendRoutine, h], .inl h⟩
  · by_cases hl : 8 ≤ s.ring.routine.length
    · exact .inl ⟨by simp [appendRoutine, Config.routineCapacity, hl], .inr hl⟩
    · exact .inr ⟨by simp [appendRoutine, Config.routineCapacity, hl, h], by simpa using h, by omega⟩

theorem appendRoutine_room {f : RoutineFrame} {s : State} (h : repeaterOnly s = false)
    (hl : s.ring.routine.length < 8) :
    appendRoutine f s = (true, { s with ring.routine := s.ring.routine ++ [f] }) := by
  simp [appendRoutine, Config.routineCapacity, h, Nat.not_le.mpr hl]

theorem appendRoutine_full {f : RoutineFrame} {s : State} (hl : 8 ≤ s.ring.routine.length) :
    appendRoutine f s = (false, s) := by
  simp [appendRoutine, Config.routineCapacity, hl]

/-! ## NOTICE frames and event latches (R191, R192) -/

/-- A NOTICE that falls due touches the Routine Queue, the notice-pending flag and two counters, and nothing else. -/
theorem noticeDue_frame (s : State) :
    noticeDue s = { s with
      ring.routine := (noticeDue s).ring.routine
      mgmt.noticePending := (noticeDue s).mgmt.noticePending
      mgmt.counters := (noticeDue s).mgmt.counters } := by
  unfold noticeDue queueNotice
  rcases appendRoutine_cases .notice s with ⟨h, -⟩ | ⟨h, -⟩ <;> rw [h] <;> dsimp only <;> split <;> rfl

/-- Raising a latch touches the Routine Queue and the Management Unit's latches, flag and counters, and nothing else. -/
theorem raise_frame (l : EventLatch) (s : State) :
    raise l s = { s with
      ring.routine := (raise l s).ring.routine
      mgmt.latches := (raise l s).mgmt.latches
      mgmt.noticePending := (raise l s).mgmt.noticePending
      mgmt.counters := (raise l s).mgmt.counters } := by
  unfold raise
  dsimp only
  split
  · rfl
  · split
    · rw [noticeDue_frame]
    · rfl

@[simp] theorem raise_now (l : EventLatch) (s : State) : (raise l s).now = s.now := by rw [raise_frame]
@[simp] theorem raise_resetLow (l : EventLatch) (s : State) : (raise l s).resetLow = s.resetLow := by rw [raise_frame]
@[simp] theorem raise_pass (l : EventLatch) (s : State) : (raise l s).pass = s.pass := by rw [raise_frame]
@[simp] theorem raise_input (l : EventLatch) (s : State) : (raise l s).input = s.input := by rw [raise_frame]
@[simp] theorem raise_track (l : EventLatch) (s : State) : (raise l s).track = s.track := by rw [raise_frame]
@[simp] theorem raise_weigh (l : EventLatch) (s : State) : (raise l s).weigh = s.weigh := by rw [raise_frame]
@[simp] theorem raise_code (l : EventLatch) (s : State) : (raise l s).code = s.code := by rw [raise_frame]
@[simp] theorem raise_dose (l : EventLatch) (s : State) : (raise l s).dose = s.dose := by rw [raise_frame]
@[simp] theorem raise_verdict (l : EventLatch) (s : State) : (raise l s).verdict = s.verdict := by rw [raise_frame]
@[simp] theorem raise_pending (l : EventLatch) (s : State) : (raise l s).pending = s.pending := by rw [raise_frame]
@[simp] theorem raise_forward (l : EventLatch) (s : State) : (raise l s).ring.forward = s.ring.forward := by
  rw [raise_frame]
@[simp] theorem raise_urgent (l : EventLatch) (s : State) : (raise l s).ring.urgent = s.ring.urgent := by
  rw [raise_frame]
@[simp] theorem raise_tx (l : EventLatch) (s : State) : (raise l s).ring.tx = s.ring.tx := by rw [raise_frame]
@[simp] theorem raise_ringCounters (l : EventLatch) (s : State) : (raise l s).ring.counters = s.ring.counters := by
  rw [raise_frame]
@[simp] theorem raise_assembler (l : EventLatch) (s : State) : (raise l s).ring.assembler = s.ring.assembler := by
  rw [raise_frame]
@[simp] theorem raise_receiver (l : EventLatch) (s : State) : (raise l s).ring.receiver = s.ring.receiver := by
  rw [raise_frame]
@[simp] theorem raise_relayPending (l : EventLatch) (s : State) :
    (raise l s).ring.relayPending = s.ring.relayPending := by rw [raise_frame]
@[simp] theorem raise_ownStation (l : EventLatch) (s : State) : (raise l s).mgmt.ownStation = s.mgmt.ownStation := by
  rw [raise_frame]
@[simp] theorem raise_filler (l : EventLatch) (s : State) : (raise l s).mgmt.filler = s.mgmt.filler := by
  rw [raise_frame]
@[simp] theorem raise_coder (l : EventLatch) (s : State) : (raise l s).mgmt.coder = s.mgmt.coder := by
  rw [raise_frame]
@[simp] theorem raise_masks (l : EventLatch) (s : State) : (raise l s).mgmt.masks = s.mgmt.masks := by
  rw [raise_frame]

@[simp] theorem noticeDue_latches (s : State) : (noticeDue s).mgmt.latches = s.mgmt.latches := by
  rw [noticeDue_frame]

/-- A raised latch is set. -/
@[simp] theorem raise_latch (l : EventLatch) (s : State) : (raise l s).latch l = true := by
  unfold raise
  split
  · assumption
  · dsimp only; split <;> cases l <;> simp [State.latch, EventLatch.bit, EventLatch.number]

/-- A raise only appends to the Routine Queue, and one NOTICE at most. -/
theorem raise_routine (l : EventLatch) (s : State) :
    (raise l s).ring.routine = s.ring.routine ∨
      ((raise l s).ring.routine = s.ring.routine ++ [.notice] ∧ noticeWaits s = false ∧ s.mgmt.noticePending = false
        ∧ s.ring.routine.length < 8) := by
  unfold raise
  split
  · exact .inl rfl
  · dsimp only
    split
    · unfold noticeDue
      split
      · exact .inl rfl
      · rename_i hw
        simp only [noticeWaits, Bool.or_eq_true, not_or, Bool.not_eq_true] at hw
        unfold queueNotice
        rcases appendRoutine_cases .notice { s with mgmt.latches := s.mgmt.latches ||| l.bit } with ⟨h, -⟩ | ⟨h, -, hl⟩
        · rw [h]; exact .inl rfl
        · rw [h]; exact .inr ⟨rfl, hw.1, hw.2, hl⟩
    · exact .inl rfl

/-! ## Replies (R183) -/

/-- A REPLY touches the Routine Queue and two counters, and nothing else. -/
theorem appendReply_frame (d k : Byte) (a : Answer) (s : State) :
    appendReply d k a s = { s with
      ring.routine := (appendReply d k a s).ring.routine
      mgmt.counters := (appendReply d k a s).mgmt.counters } := by
  unfold appendReply
  dsimp only
  rcases appendRoutine_cases
    (.ready ⟨.managementUnit, d, kindReply, [k, a.status.code, a.detail] ++ a.data⟩) s with ⟨h, -⟩ | ⟨h, -⟩ <;> rw [h]

@[simp] theorem appendReply_now (d k : Byte) (a : Answer) (s : State) : (appendReply d k a s).now = s.now := by
  rw [appendReply_frame]
@[simp] theorem appendReply_resetLow (d k : Byte) (a : Answer) (s : State) :
    (appendReply d k a s).resetLow = s.resetLow := by rw [appendReply_frame]
@[simp] theorem appendReply_pass (d k : Byte) (a : Answer) (s : State) : (appendReply d k a s).pass = s.pass := by
  rw [appendReply_frame]
@[simp] theorem appendReply_input (d k : Byte) (a : Answer) (s : State) : (appendReply d k a s).input = s.input := by
  rw [appendReply_frame]
@[simp] theorem appendReply_track (d k : Byte) (a : Answer) (s : State) : (appendReply d k a s).track = s.track := by
  rw [appendReply_frame]
@[simp] theorem appendReply_weigh (d k : Byte) (a : Answer) (s : State) : (appendReply d k a s).weigh = s.weigh := by
  rw [appendReply_frame]
@[simp] theorem appendReply_code (d k : Byte) (a : Answer) (s : State) : (appendReply d k a s).code = s.code := by
  rw [appendReply_frame]
@[simp] theorem appendReply_dose (d k : Byte) (a : Answer) (s : State) : (appendReply d k a s).dose = s.dose := by
  rw [appendReply_frame]
@[simp] theorem appendReply_verdict (d k : Byte) (a : Answer) (s : State) :
    (appendReply d k a s).verdict = s.verdict := by rw [appendReply_frame]
@[simp] theorem appendReply_pending (d k : Byte) (a : Answer) (s : State) :
    (appendReply d k a s).pending = s.pending := by rw [appendReply_frame]
@[simp] theorem appendReply_latches (d k : Byte) (a : Answer) (s : State) :
    (appendReply d k a s).mgmt.latches = s.mgmt.latches := by rw [appendReply_frame]
@[simp] theorem appendReply_urgent (d k : Byte) (a : Answer) (s : State) :
    (appendReply d k a s).ring.urgent = s.ring.urgent := by rw [appendReply_frame]

/-! ## Ring faults and frames sent on (R15, R17) -/

/-- A ring fault counts and raises RING_ERROR; beside the ring's counters and Routine Queue it touches only the
Management Unit. -/
theorem ringFault_frame (f : RingFault) (s : State) :
    ringFault f s = { s with
      ring.counters := s.ring.counters.fault f
      ring.routine := (ringFault f s).ring.routine
      mgmt := (ringFault f s).mgmt } := by
  unfold ringFault; rw [raise_frame]

/-- What the inter-character timeout can do (R13): nothing, or the end of RECEIVING or DISCARD. -/
theorem interCharacterEvent_frame (low : Ticks) (s : State) :
    interCharacterEvent low s = { s with
      now := (interCharacterEvent low s).now
      ring.receiver := (interCharacterEvent low s).ring.receiver
      ring.assembler := (interCharacterEvent low s).ring.assembler
      ring.counters := (interCharacterEvent low s).ring.counters
      ring.routine := (interCharacterEvent low s).ring.routine
      mgmt := (interCharacterEvent low s).mgmt } := by
  unfold interCharacterEvent
  split
  · rfl
  · dsimp only
    split
    · rw [ringFault_frame]; rfl
    · rfl
    · rfl

theorem sendOn_room {f : List Byte} {s : State} (h : s.ring.forward.length < 4) :
    sendOn f s = { s with ring.forward := s.ring.forward ++ [f] } := by
  simp [sendOn, Config.forwardCapacity, h]

theorem sendOn_full {f : List Byte} {s : State} (h : 4 ≤ s.ring.forward.length) :
    sendOn f s = ringFault .overrun s := by
  simp [sendOn, Config.forwardCapacity, Nat.not_lt.mpr h]

/-! ## Records (R62, R63) -/

@[simp] theorem length_updateRecord (n : Serial) (f : CanRecord → CanRecord) (q : List CanRecord) :
    (updateRecord n f q).length = q.length := by
  induction q with
  | nil => rfl
  | cons r q ih => simp only [updateRecord]; split <;> simp [ih]

/-- A write that keeps the serial keeps the queue's serials. -/
theorem map_serial_updateRecord {n : Serial} {f : CanRecord → CanRecord} (h : ∀ r, (f r).serial = r.serial)
    (q : List CanRecord) : (updateRecord n f q).map CanRecord.serial = q.map CanRecord.serial := by
  induction q with
  | nil => rfl
  | cons r q ih => simp only [updateRecord]; split <;> simp [ih, h]

/-- A record that was found is found as written. -/
theorem findRecord_updateRecord {n : Serial} {f : CanRecord → CanRecord} (h : ∀ r, (f r).serial = r.serial)
    (q : List CanRecord) : findRecord n (updateRecord n f q) = (findRecord n q).map f := by
  induction q with
  | nil => rfl
  | cons r q ih =>
    simp only [findRecord] at ih
    by_cases hr : (r.serial == n) = true <;> simp [updateRecord, findRecord, hr, h, ih]

/-- A write with no record of the serial is discarded (R62). -/
theorem updateRecord_absent {n : Serial} {f : CanRecord → CanRecord} {q : List CanRecord}
    (h : findRecord n q = none) : updateRecord n f q = q := by
  induction q with
  | nil => rfl
  | cons r q ih =>
    simp only [findRecord, List.find?_eq_none, List.mem_cons, forall_eq_or_imp] at h ih
    have hr : ¬(r.serial == n) = true := h.1
    simp [updateRecord, hr, ih h.2]

@[simp] theorem length_insertByOrigin (r : CanRecord) (q : List CanRecord) :
    (insertByOrigin r q).length = q.length + 1 := by
  induction q with
  | nil => rfl
  | cons x q ih => simp only [insertByOrigin]; split <;> simp [ih]

theorem perm_insertByOrigin (r : CanRecord) (q : List CanRecord) : (insertByOrigin r q).Perm (r :: q) := by
  induction q with
  | nil => exact .refl _
  | cons x q ih =>
    simp only [insertByOrigin]
    split
    · exact (ih.cons x).trans (.swap r x q)
    · exact .refl _

/-- A removal of a record that is there takes one away. -/
theorem length_removeRecord {n : Serial} {q : List CanRecord} {r : CanRecord} (h : findRecord n q = some r) :
    (removeRecord n q).length + 1 = q.length := by
  induction q with
  | nil => simp [findRecord] at h
  | cons x q ih =>
    by_cases hx : (x.serial == n) = true
    · simp [removeRecord, hx]
    · have hq : findRecord n q = some r := by simpa [findRecord, hx] using h
      simp [removeRecord, hx, ih hq]

theorem removeRecord_sublist (n : Serial) (q : List CanRecord) : (removeRecord n q).Sublist q := by
  induction q with
  | nil => exact .refl _
  | cons x q ih =>
    simp only [removeRecord]
    split
    · exact List.sublist_cons_self x q
    · exact ih.cons_cons x

/-! ## Valves (R148) -/

/-- What a changed valve reads as, and what the others do. -/
theorem valve_modifyValve (v w : Nat) (f : Valve → Valve) (s : State) (hv : 1 ≤ v) (hw : 1 ≤ w)
    (hl : v ≤ s.dose.valves.length) :
    (modifyValve v f s).valve w = if w = v then f (s.valve v) else s.valve w := by
  unfold modifyValve setValve State.valve
  by_cases h : w = v
  · subst h
    simp [show w - 1 < s.dose.valves.length by omega]
  · have : v - 1 ≠ w - 1 := by omega
    simp [this, h]

/-! ## Table writes (R186) -/

/-- A TABLE WRITE to a known table answers BAD_LENGTH, BAD_INDEX or a refusal and stores nothing, or stores the whole. -/
theorem writeTable_cases (id : Nat) (refuse : List Entry → State → Option Refused)
    (store : List Entry → State → State) (first count : Byte) (data : List Byte) (s : State) (t : TableShape)
    (h : tableShape id = some t) :
    (∃ st d, writeTable id refuse store first count data s
        = appendReply 0 kindTableWrite ⟨st, d, [BitVec.ofNat 8 id, first, count]⟩ s) ∨
      (refuse (entriesOf t.writeSize first.toNat count.toNat data) s = none ∧
        writeTable id refuse store first count data s
          = appendReply 0 kindTableWrite ⟨.ok, 0, [BitVec.ofNat 8 id, first, count]⟩
              (store (entriesOf t.writeSize first.toNat count.toNat data) s)) := by
  unfold writeTable
  simp only [h, reply]
  split
  · exact .inl ⟨_, _, rfl⟩
  · split
    · exact .inl ⟨_, _, rfl⟩
    · split
      · exact .inl ⟨_, _, rfl⟩
      · exact .inr ⟨by assumption, rfl⟩

/-! ## The encoder and the sample port -/

/-- An accepted pair changes the pair, its filter, the count and the direction, and nothing else (R43, R45). -/
theorem countStep_frame (s : State) :
    (countStep s).2 = { s with
      input.encoder.accepted := s.input.encoder.pins
      input.encoder.filter := .stable
      input.count := (countStep s).2.input.count
      input.direction := (countStep s).2.input.direction } := by
  unfold countStep
  dsimp only
  split <;> rfl

/-- A short frame is counted where a frame was begun, and nothing happens where none was (R89, logs 1 and 20). -/
theorem shortFrameEvent_cases (s : State) :
    (s.weigh.receiver = .idle ∧ shortFrameEvent s = s) ∨
    ((∃ bits, s.weigh.receiver = .taking bits) ∧ shortFrameEvent s = { s with
      weigh.receiver := .taking [], weigh.counters.short := s.weigh.counters.short + 1 }) := by
  unfold shortFrameEvent
  cases h : s.weigh.receiver <;> simp

/-- A rising edge of SMP CLK is ignored, takes a bit, or completes the frame (R89). -/
theorem sampleClock_cases (data : Bool) (s : State) :
    (s.weigh.receiver = .idle ∧ sampleClock data s = s) ∨
    ∃ bits, s.weigh.receiver = .taking bits ∧
      ((bits.length < 31 ∧ sampleClock data s = { s with weigh.receiver := .taking (bits ++ [data]) }) ∨
       (31 ≤ bits.length ∧ sampleClock data s = completeSampleFrame (sampleWord (bits ++ [data])) s)) := by
  unfold sampleClock
  cases h : s.weigh.receiver with
  | idle => simp
  | taking bits =>
    refine .inr ⟨bits, rfl, ?_⟩
    by_cases hl : bits.length < 31
    · exact .inl ⟨hl, by simp [Config.sampleFrameBits, show bits.length + 1 < 32 by omega]⟩
    · exact .inr ⟨by omega, by simp [Config.sampleFrameBits, show ¬bits.length + 1 < 32 by omega]⟩

/-! ## Characters as they are sent (R23, R124) -/

/-- A frame goes out as one character a byte (R23). -/
@[simp] theorem length_frameCharacters (f : List Byte) : (frameCharacters f).length = f.length := by
  cases f <;> simp [frameCharacters]

/-- A ring character, sampled as it was sent, is delivered with its data and its mark, sound and without noise (R2, R3). -/
theorem receiveRing_ringCharacter (mark : Bool) (data : Byte) :
    receiveRing ⟨ringCharacter mark data, ringCharacter mark data, ringCharacter mark data, false⟩
      = .character data mark true false := by
  have h : ∀ m : Bool, ∀ n : Fin 256, receiveRing ⟨ringCharacter m (BitVec.ofFin n), ringCharacter m (BitVec.ofFin n),
    ringCharacter m (BitVec.ofFin n), false⟩ = .character (BitVec.ofFin n) m true false := by decide +kernel
  exact h mark data.toFin

/-- A code character, sampled as it was sent, is delivered with its data and without an error or noise (R124). -/
theorem receiveCode_codeCharacter (data : Byte) :
    receiveCode .eightN1 ⟨codeCharacter .eightN1 data, codeCharacter .eightN1 data, codeCharacter .eightN1 data,
      false⟩
      = .character data false false false := by
  have h : ∀ n : Fin 256, receiveCode .eightN1 ⟨codeCharacter .eightN1 (BitVec.ofFin n),
    codeCharacter .eightN1 (BitVec.ofFin n), codeCharacter .eightN1 (BitVec.ofFin n), false⟩
      = .character (BitVec.ofFin n) false false false := by decide +kernel
  exact h data.toFin

end Sys2Proof.Machine
end

