-- ==== Sys2Proof/Laws/Tables.lean ====
section
/-! SUPPORT. A TABLE WRITE of one entry: what it answers and stores (R186), for every table and for one SETTINGS entry; the counters right after a hard reset. -/

namespace Sys2Proof.Machine

/-- A write of one entry inside its table is refused by its owner or stored (R186). -/
theorem writeTable_one (id : Nat) (refuse : List Entry → State → Option Refused)
    (store : List Entry → State → State) (first : Byte) (data : List Byte) (s : State) (t : TableShape)
    (ht : tableShape id = some t) (hd : data.length = t.writeSize) (lo : t.first ≤ first.toNat)
    (hi : first.toNat ≤ t.last) :
    writeTable id refuse store first 1 data s =
      match refuse [(first.toNat, data)] s with
      | some r => appendReply 0 kindTableWrite ⟨r.1, r.2, [BitVec.ofNat 8 id, first, 1]⟩ s
      | none =>
        appendReply 0 kindTableWrite ⟨.ok, 0, [BitVec.ofNat 8 id, first, 1]⟩ (store [(first.toNat, data)] s) := by
  have ho : t.outside first.toNat (1 : Byte).toNat = none := by
    simp [TableShape.outside, Nat.not_lt.mpr lo, Nat.not_lt.mpr hi]
  have he : entriesOf t.writeSize first.toNat (1 : Byte).toNat data = [(first.toNat, data)] := by
    simp [entriesOf, slice, List.range_succ, hd]
  unfold writeTable
  simp only [ht, ho, he]
  simp [hd, reply] <;> rfl

/-- One entry tested by its owner's test. -/
theorem firstRefusal_one (test : Entry → Option Status) (e : Entry) :
    firstRefusal test [e] = (test e).map (fun st => (st, BitVec.ofNat 8 e.1)) := by
  cases h : test e <;> simp [firstRefusal, h]

/-- A write of one SETTINGS entry is refused by its owner or stored (R188, log 16). -/
theorem writeSetting_eq (i : Nat) (e : BitVec 64) (s : State) (hi : i ≤ 23) :
    writeSetting i e s =
      match settingRefusal s (i, leBytes 8 e.toNat) with
      | some st =>
        appendReply 0 kindTableWrite ⟨st, BitVec.ofNat 8 i, [2, BitVec.ofNat 8 i, 1]⟩ s
      | none =>
        appendReply 0 kindTableWrite ⟨.ok, 0, [2, BitVec.ofNat 8 i, 1]⟩
          (storeSetting (i, leBytes 8 e.toNat) s) := by
  have hn : (BitVec.ofNat 8 i).toNat = i := by rw [BitVec.toNat_ofNat]; omega
  unfold writeSetting writeSettings
  rw [writeTable_one 2 _ _ _ _ _ ⟨0, 23, 8, 8⟩ rfl (by simp) (by simp) (by rw [hn]; exact hi)]
  simp only [hn, refuseSettings, firstRefusal_one]
  cases settingRefusal s (i, leBytes 8 e.toNat) <;> rfl

/-- The counters right after a hard reset (R179): the two markers of Table 10-11 (log 23) and zeros. -/
theorem counterList_afterReset (p : Pins) (q : List Instr) : counterList (State.afterReset p q) =
    List.replicate 93 0 ++ 0xFFFFFFFF :: List.replicate 16 0 ++ 0xFFFFFFFF :: List.replicate 40 0 := by
  have h1 : ringCounterList (State.afterReset p q).ring.counters = List.replicate 13 0 := rfl
  have h2 : passCounterList (State.afterReset p q).pass.counters = List.replicate 8 0 := rfl
  have h3 : inputCounterList (State.afterReset p q).input.counters = List.replicate 13 0 := rfl
  have h4 : (State.afterReset p q).input.count = 0 := rfl
  have h5 : directionWord (State.afterReset p q).input.direction = 0 := rfl
  have h6 : canCounterList (State.afterReset p q).track.counters = List.replicate 6 0 := rfl
  have h7 : word32 (State.afterReset p q).track.queue.length = 0 := rfl
  have h7' : (State.afterReset p q).track.untracked = 0 := rfl
  have h8 : (State.afterReset p q).track.nextSerial.setWidth 32 = (0 : Counter) := rfl
  have h9 : (lineStateByte (State.afterReset p q).track.line).setWidth 32 = (0 : Counter) := rfl
  have h10 : weighingCounterList (State.afterReset p q).weigh.counters = List.replicate 15 0 := rfl
  have h11 : engineStatusWord (State.afterReset p q) = 0 := rfl
  have h12 : codeCounterList (State.afterReset p q).code.counters = List.replicate 20 0 := rfl
  have h13 : lastReadList (State.afterReset p q).code.lastRead = List.replicate 9 0 ++ [0xFFFFFFFF, 0] := rfl
  have h14 : doseCounterList (State.afterReset p q).dose.counters = List.replicate 15 0 := rfl
  have h15 : activeProductWord (State.afterReset p q) = 0xFFFFFFFF := rfl
  have h16 : verdictCounterList (State.afterReset p q).verdict.counters = List.replicate 29 0 := rfl
  have h17 : word32 (State.afterReset p q).verdict.stopLatch.bits = 0 := rfl
  have h18 : word32 (State.afterReset p q).verdict.lostRun = 0 := rfl
  have h19 : managementCounterList (State.afterReset p q).mgmt.counters = List.replicate 9 0 := rfl
  rw [counterList, h1, h2, h3, h4, h5, h6, h7, h7', h8, h9, h10, h11, h12, h13, h14, h15, h16, h17, h18, h19]
  decide

end Sys2Proof.Machine
end

