-- ==== Sys2Proof/Tests/Slice0.lean ====
section
/-! SUPPORT. Tests: ill-formed commands that the check refuses, the spec's worked numbers, and, for each statement of
Certificates/Slice0/Obligations.lean, a state and operands that meet its hypotheses. -/

namespace Sys2Proof.Tests

open Sys2Proof Sys2Proof.Machine

/-! ## Well-formedness -/

theorem test_wf_resync : Instr.wf (.resync 10) = false ∧ Instr.wf (.resync 11) = true
    ∧ Instr.wf (.resync 159999) = true ∧ Instr.wf (.resync 160000) = false := by decide

theorem test_wf_longBreakEnd : Instr.wf (.longBreakEnd 159999) = false ∧ Instr.wf (.longBreakEnd 160000) = true := by
  decide

theorem test_wf_exchangeTimeout : Instr.wf (.exchangeTimeout 0) = false ∧ Instr.wf (.exchangeTimeout 49) = false
    ∧ Instr.wf (.exchangeTimeout 48) = true := by decide

theorem test_wf_unknownKind : Instr.wf (.unknownKindRequest 0x32) = false
    ∧ Instr.wf (.unknownKindRequest 0x14) = false ∧ Instr.wf (.unknownKindRequest 0x50) = true := by decide

theorem test_wf_payload : Instr.wf (.identify 0 (List.replicate 57 0)) = false
    ∧ Instr.wf (.settingsWrite 0 0 0 (List.replicate 54 0)) = false
    ∧ Instr.wf (.settingsWrite 0 0 0 (List.replicate 53 0)) = true := by decide

theorem test_wf_badTableWrite : Instr.wf (.badTableWrite 0 [2, 0, 1]) = false
    ∧ Instr.wf (.badTableWrite 0 [8, 0, 1]) = true ∧ Instr.wf (.badTableWrite 0 [2, 0]) = true := by decide

theorem test_wf_unknownActionCode : Instr.wf (.unknownActionCode 0 [1]) = false
    ∧ Instr.wf (.unknownActionCode 0 [1, 0]) = true ∧ Instr.wf (.unknownActionCode 0 [14]) = true := by decide

theorem test_noWordSpellsACommand : decodeTableWord 8 0 = none ∧ decodeTableWord 32 0xFFFFFFFF = none := by decide

/-! ## States -/

/-- The state after a command. -/
def run1 (s : State) (c : Instr) : State :=
  match exec c s with
  | .next t => t
  | _ => s

/-- The state after several commands. -/
def runs (s : State) (cs : List Instr) : State := cs.foldl run1 s

/-- The product of section 7.9: code 427, target 35500, limits 34800 and 36500, gain 25, window 8, fraction 1/2, lag 2. -/
def product : Product :=
  ⟨427, 35500, 34800, 36500, 1450, 25, 1500, 8, 100, 200, 20, 0x21, 5, 1⟩

/-- The Distance Table of Table 4-8. -/
def distances : List (Option Nat) := [400, 900, 1200, 150, 3000, 120, 40, 360, 900, 1600, 100].map some

/-- A part loaded for a run, in IDLE: filler 10, coder 11, 24 valves regulating, product entry 2 active. -/
def loaded : State :=
  { State.reset with
    mgmt.filler := 10
    mgmt.coder := 11
    track.distances := distances
    weigh.factor := 131072
    weigh.zero := 12000
    dose.products := State.reset.dose.products.set 2 product
    dose.active := some 2
    dose.valveCount := 24
    dose.valves := List.replicate 24 { state := .regulating, base := 1500 } ++ List.replicate 24 {} }

/-- The part in RUN. -/
def running : State := { loaded with track.line := .run, input.count := 5000 }

/-- A record of valve 7 at an origin, expected. -/
def can (n : Serial) (origin : Count) : CanRecord where
  serial := n
  valve := 7
  product := some 2
  origin := origin
  eyeDistance := 3000
  eligible := true
  stale := false
  locked := false
  lot := none
  print := .none
  code := none
  arrival := none
  eye := .expected
  weight := none
  verdict := .pending
  reasons := []
  confirm := none
  passed := {}

/-- The part in RUN with two records, the first due at the platform eye. -/
def busy : State := { running with track.queue := [can 300 2000, can 301 2400], track.nextSerial := 302 }

/-- The part in RUN with a full queue and nothing due. -/
def full : State :=
  { running with track.queue := (List.range 128).map (fun i => can (BitVec.ofNat 12 i) 4990), track.nextSerial := 128 }

/-- A state whose transmitter is READY. -/
def withTx (tx : Transmitter) (s : State) : State := { s with ring.tx := tx }

/-- A filter that is CHANGING to high. -/
def rising : InputFilter := ⟨true, false, .changing 0, 20⟩

/-- A state with an input's filter replaced. -/
def withFilter (i : Input) (f : InputFilter) (s : State) : State := { s with input := s.input.setFilter i f }

/-- A state with valve v replaced. -/
def withValve (v : Nat) (x : Valve) (s : State) : State := setValve v x s

/-- The samples of a clean ring character. -/
def ringChar (d : Byte) (mark : Bool) : RingSamples :=
  let w := ringCharacter mark d
  ⟨w, w, w, false⟩

/-- The samples of a clean 8N1 code character. -/
def codeChar (d : Byte) : CodeSamples :=
  let w := codeCharacter .eightN1 d
  ⟨w, w, w, false⟩

/-- An entry of SETTINGS. -/
def entry (x : Int) : BitVec 64 := BitVec.ofInt 64 x

/-! ## Encodings -/

/-- The check of "123456789" under R10. -/
theorem test_check : checkOf [0x31, 0x32, 0x33, 0x34, 0x35, 0x36, 0x37, 0x38, 0x39] = 0x6F91 := by decide +kernel

/-- The code texts of section 6.9. -/
theorem test_codeText :
    codeText 427 [0x4B, 0x32, 0x34, 0x41, 0x30, 0x37] 7 0x12C
        = [0x30, 0x34, 0x32, 0x37, 0x4B, 0x32, 0x34, 0x41, 0x30, 0x37, 0x30, 0x37, 0x31, 0x32, 0x43, 0x36]
      ∧ (codeText 427 [0x4B, 0x32, 0x34, 0x41, 0x30, 0x37] 8 0x12D).getLast? = some 0x38
      ∧ (codeText 427 [0x4B, 0x32, 0x34, 0x41, 0x30, 0x37] 9 0x12E).getLast? = some 0x41 := by decide +kernel

theorem test_ringCharacter : receiveRing (ringChar 0xA5 true) = .character 0xA5 true true false
    ∧ receiveRing ⟨0, 0, 0, true⟩ = .lineBreak ∧ receiveRing ⟨0, 0, 0, false⟩ = .character 0 false false false
    ∧ receiveRing ⟨1, 0, 1, false⟩ = .falseStart := by decide

theorem test_codeCharacter : receiveCode .eightN1 (codeChar 0x41) = .character 0x41 false false false
    ∧ receiveCode .sevenE1 (codeChar 0x41) = .character 0x41 false false false
    ∧ receiveCode .sevenE1 (codeChar 0x43) = .character 0x43 true false false := by decide

theorem test_readShapes :
    ((List.range 11).all fun id =>
      match tableShape id with
      | none => true
      | some t => (List.range (t.last + 1 - t.first)).all fun k =>
          (readEntry busy id (t.first + k)).length == t.readSize) = true
      ∧ (counterList busy).length = 151 := by decide +kernel

/-! ## The spec's worked numbers -/

/-- Section 2.8, frame A: the rewrite of three pairs. -/
theorem test_rewrite :
    let s := withValve 12 { state := .awaitAck, base := 1500, pendingTrim := some (-6) }
      (withValve 3 { state := .regulating, base := 1200, trim := 8 } loaded)
    let frame (a b c : Nat) := buildFrame 10 0 0x11
      ([0x41, 3] ++ [3] ++ leBytes 2 a ++ [12] ++ leBytes 2 b ++ [30] ++ leBytes 2 c)
    (rewriteFrame (frame 1200 1520 900) s).1 = frame 1208 1514 900
      ∧ ((rewriteFrame (frame 1200 1520 900) s).2.valve 12).base = 1520
      ∧ ((rewriteFrame (frame 1200 1520 900) s).2.valve 12).state = .awaitAck := by decide +kernel

/-- Table 3-4 and section 3.7: the index. -/
theorem test_index : advanceIndex 8 .unknown = (0, .unknown) ∧ advanceIndex 8 .armed = (1, .atValve 1)
    ∧ advanceIndex 8 (.atValve 4) = (5, .atValve 5) ∧ advanceIndex 8 (.atValve 8) = (1, .atValve 1) := by decide

/-- Section 5.9: the net of can A, and the zero tracking that follows. -/
theorem test_net : netWeight 24641000 80 12000 131072 1450 = 35551
    ∧ ((160 : Int).tdiv 4 = 40) := by decide +kernel

/-- Section 5.10: the synthetic samples of a test window. -/
theorem test_synthetic : syntheticSample 12040 131072 ⟨35500, [3, -3, 3, -3], 0⟩ = 296043
    ∧ syntheticSample 12040 131072 ⟨35500, [3, -3, 3, -3], 1⟩ = 296037
    ∧ syntheticSample 12040 131072 ⟨36000, [3, -3, 3, -3], 0⟩ = 300043 := by decide +kernel

/-- Section 7.9: an error of 302 cg calls for a trim of −6. -/
theorem test_trim : newTrim product 0 302 = -6 := by decide +kernel

/-- Section 8.2: which reasons reject. -/
theorem test_verdict : decideVerdict 0 [.noread] = .accept ∧ decideVerdict 1 [.noread] = .reject
    ∧ decideVerdict 0 [.under] = .reject ∧ decideVerdict 0x3F [] = .accept := by decide

/-- Section 1.10: the break while F1 is in SENDING. -/
theorem test_breakExample :
    let s : State := { State.reset with
      now := 111 * 8
      ring.tx := .sending (List.replicate 30 0) false 0
      ring.forward := [[1]]
      ring.assembler := .receiving [1, 2, 3] false 0 }
    let t := runs s [.ringBreak, .frameSent, .gap, .resync (4000 * 8), .relayEnd, .gap]
    t.now = 4374 * 8 ∧ t.ring.tx = .ready ∧ t.ring.forward = []
      ∧ t.ring.counters = { truncated := 1, forwarded := 1, resyncs := 1, relays := 1 } := by decide +kernel

/-- Sections 1.2 and 6.3: characters as they are sent, written out from the last bit to the first. -/
theorem test_sentCharacters : ringCharacter true 0xA5 = 0b11_10100101_0 ∧ ringCharacter false 0x01 = 0b10_00000001_0
    ∧ frameCharacters [9, 0] = [0b11_00001001_0, 0b10_00000000_0]
    ∧ codeCharacter .eightN1 0x54 = 0b1_01010100_0 ∧ codeCharacter .sevenE1 0x54 = 0b1_1_1010100_0 := by decide

/-- The level of Ring Out in the start bit, the mark bit of the first character and that of the second; and of CODE in bit
3 of a trigger, at 115200 bit/s. -/
theorem test_lineLevels :
    let s (t : Ticks) : State := { withTx (.sending [9, 0] true 100) loaded with now := t }
    (s 100).ringOut = false ∧ (s (100 + 9 * 8)).ringOut = true ∧ (s (100 + 20 * 8 + 7)).ringOut = false
      ∧ (s (100 + 22 * 8)).ringOut = true ∧ (withTx (.relay 0 0 9) loaded).ringOut = false
      ∧ (let c (t : Ticks) : State := { loaded with now := t, code.sending := some ⟨0x54, 0⟩ }
         (c 0).codeOut = false ∧ (c 240).codeOut = true ∧ (c 700).codeOut = true ∧ loaded.codeOut = true) := by
  decide +kernel

/-- R25: a line low since the end of reset breaks from that end; a later break begins one character time before. -/
theorem test_breakAfterReset :
    let s : State := State.afterReset { Pins.manual with ringIn := false } []
    (run1 s .ringBreak).ring.receiver = .inBreak 0 false ∧ (run1 s .ringBreak).now = 88
      ∧ (run1 { s with now := 500 } .ringBreak).ring.receiver = .inBreak 412 false := by decide +kernel

/-- Section 5.1: a frame bit by bit, its first bit the most significant; a second SMP SYNC makes it short. -/
theorem test_sampleBits :
    let bits := fun w : BitVec 32 => (List.range 32).map fun i => Instr.sampleFrame (.clk (w.getLsbD (31 - i)))
    let t := runs loaded (.sampleFrame .sync :: bits 0xFFFFFE40)
    t = run1 loaded (.sampleFrame (.frame 0xFFFFFE40)) ∧ sampleOf 0xFFFFFE40 = -2 ∧ sampleFaulted 0xFFFFFE40 = true
      ∧ t.weigh.counters.faulted = 1
      ∧ (runs loaded [.sampleFrame .sync, .sampleFrame (.clk true), .shortFrame]).weigh.receiver = .taking []
      ∧ (runs loaded [.sampleFrame .sync, .sampleFrame (.clk true), .sampleFrame .sync]).weigh.counters.short = 1
      ∧ (run1 loaded .shortFrame).weigh.counters.short = 0 := by decide +kernel

/-- Table 4-10: can B arrives at the close point of its own eye window, the arrival or the close taken first. -/
theorem test_arrivalAtClose :
    let c (n : Serial) (o : Count) : CanRecord := { can n o with eyeDistance := 3010 }
    let s : State := withFilter .platformEye rising { running with
      input.encoder := ⟨(true, false), (false, false), .changing 0, 1⟩
      input.count := 53489
      track.queue := [{ c 300 50000 with eye := .arrived, arrival := some 53012 }, c 301 50360, c 302 50720]
      track.learned := List.replicate 16 3010
      track.nextSerial := 303 }
    let a := run1 s (.arrival true)
    let b := runs s [.encoderStep, .arrival false]
    a.track.queue.map CanRecord.serial = [300, 301, 302]
      ∧ (findRecord 301 a.track.queue).map (fun r => (r.eye, r.arrival, r.passed.eyeClose))
          = some (.arrived, some 53490, true)
      ∧ a.track.learned = List.replicate 15 3010 ++ [3130] ∧ a.track.counters = s.track.counters
      ∧ a.input.count = 53490 ∧ a.mgmt.latches = 0
      ∧ b.track.queue.map CanRecord.serial = [300, 303, 302]
      ∧ (findRecord 303 b.track.queue).map CanRecord.origin = some 50480 ∧ b.track.learned = s.track.learned
      ∧ b.track.counters = { s.track.counters with lost := 1, strays := 1 }
      ∧ b.latch .lostCan = true ∧ b.latch .strayCan = true := by decide +kernel

/-- A CLEAR COUNTERS received as a frame clears the addressed-frame count of that frame (log 29). -/
theorem test_clearCountersFrame :
    let t := passFrame (buildFrame 9 0 0x32 [12]) loaded
    t.pass.counters.addressed = 0 ∧ t.mgmt.counters.requests = 0 := by decide +kernel

/-- A matched arrival. -/
theorem test_matchedArrival :
    let t := run1 (withFilter .platformEye rising busy) (.arrival false)
    t.track.queue.map CanRecord.eye = [.arrived, .expected] ∧ t.track.learned = [3000]
      ∧ t.weigh.slot = .pending 300 false ∧ t.verdict.lostRun = 0 := by decide +kernel

/-- Section 8.8: the third loss in a row posts LOST_RUN. -/
theorem test_lostRun :
    let s : State := { busy with verdict.lostRun := 2, verdict.lostRunLimit := 3 }
    let t := eyeClose 300 s
    t.verdict.lostRun = 3 ∧ t.verdict.stopLatch.lostRun = true ∧ t.stopOn = true
      ∧ t.track.queue.map CanRecord.serial = [301] ∧ t.latch .stopSet = true := by decide +kernel

/-- Section 4.11: an arrival with no room is an untracked stray. -/
theorem test_untracked :
    let t := run1 (withFilter .platformEye rising full) (.arrival false)
    t.track.untracked = 1 ∧ t.track.queue.length = 128 ∧ t.stopOn = true ∧ t.latch .strayCan = true := by
  decide +kernel

/-- A START on the loaded part, and its REPLY in the queue. -/
theorem test_start :
    let t := run1 loaded (.start 0)
    t.track.line = .run ∧ t.ring.routine = [.ready ⟨.managementUnit, 0, 0x38, [0x32, 0, 0, 1]⟩]
      ∧ t.latch .lineRunOn = true := by decide +kernel

/-- A START on the part at reset names the first condition that fails. -/
theorem test_startRefused :
    (run1 State.reset (.start 0)).ring.routine = [.ready ⟨.managementUnit, 0, 0x38, [0x32, 8, 1, 1]⟩] := by
  decide +kernel

/-- A run of SETTINGS entries is stored whole or not at all. -/
theorem test_settingsWhole :
    (run1 loaded (.settingsWrite 0 20 2 (leBytes 8 500 ++ leBytes 8 60))).dose.ackTimeout = 500
      ∧ (run1 loaded (.settingsWrite 0 20 2 (leBytes 8 500 ++ leBytes 8 2))).dose.ackTimeout = 250 := by
  decide +kernel

/-- A REPLY to IDENTIFY goes out whole: gap, choice, end. -/
theorem test_identifySent :
    let t := runs loaded [.identify 0 [], .gap]
    t.ring.tx = .sending (buildFrame 0 9 0x38 [0x33, 0, 0, 0x54, 0x57, 0x34, 0x38, 1]) true 176
      ∧ (run1 t .frameSent).ring.counters.own = 1 := by decide +kernel

/-- A FILL ACK that arrives as a frame, character by character, ends its exchange. -/
theorem test_ackFrame :
    let s := withValve 12
      { state := .awaitAck, base := 1500, pendingTrim := some (-6), exchange := some (.dose, 41), timer := some 9000,
        generation := 40 } loaded
    let f := buildFrame 9 10 0x14 [0x11, 41, 12, 0]
    let t := runs s (f.zipIdx.map (fun p => .ringCharacter (ringChar p.1 (p.2 == 0))))
    (t.valve 12).state = .regulating ∧ (t.valve 12).trim = -6 ∧ (t.valve 12).generation = 41
      ∧ t.pass.counters.addressed = 1 ∧ t.ring.counters.goodFrames = 1 := by decide +kernel

/-- A stop request, then a clear. -/
theorem test_stop : (run1 loaded (.stopRequest 0)).stopOn = true
    ∧ (runs loaded [.stopRequest 0, .clearStop 0]).stopOn = false := by decide +kernel

/-- A read of the code port: 16 characters, then idle. -/
theorem test_read :
    let text := codeText 427 [0x30, 0x30, 0x30, 0x30, 0x30, 0x30] 7 300
    let s : State := { busy with
      code.enable := true, code.readState := .ready
      track.queue := [{ can 300 3800 with lot := some (List.replicate 6 0x30) }] }
    let t := runs s (text.map (fun b => .codeCharacter (.ends (codeChar b))) ++ [.idleTimerExpiry])
    t.code.counters.matched = 1 ∧ t.track.queue.map CanRecord.code = [some .matched] := by decide +kernel

/-! ## Witnesses: a state and operands that meet the hypotheses of each statement, clause by clause -/

/-- Samples whose stop bit comes out low. -/
def unsound : RingSamples := ⟨2, 2, 2, true⟩

/-- The base of a part with an assembler state. -/
def assembling (a : Assembler) : State := { loaded with ring.assembler := a }

theorem witness_StepRunsFrontCommand :
    ({ loaded with pending := [.gap, .frameSent] } : State).pending = .gap :: [.frameSent] := rfl

theorem witness_EveryStepAnswersNext : State.reset.pending = [] := rfl

theorem witness_ResetLowHoldsEverything :
    Awake loaded ∧ ({ loaded with resetLow := true } : State).resetLow = true
      ∧ ∀ p, Instr.gap ≠ .hardReset p := ⟨rfl, rfl, nofun⟩

theorem witness_TrackingAtHardReset :
    Listening State.reset ∧ State.reset.track.line = .idle ∧ State.reset.dose.active = none
      ∧ distancesValid State.reset.track.distances = false ∧ State.reset.mgmt.filler = 0
      ∧ State.reset.mgmt.coder = 0 ∧ State.reset.dose.valveCount = 0 ∧ State.reset.weigh.factor = 0 := by
  decide +kernel

theorem witness_FramesVerify :
    (List.replicate 56 (0 : Byte)).length ≤ 56
      ∧ (let f := buildFrame 10 0 0x11 ([0x41, 1, 7] ++ leBytes 2 1500)
         f.length = 6 + frameLength f ∧ doseSetWellFormed (framePayload f) = true) := by decide +kernel

theorem witness_AssemblerTakesCharacters :
    Awake loaded ∧ loaded.ring.receiver.isInBreak = false
      ∧ ({ loaded with ring.receiver := .inBreak 0 false } : State).ring.receiver.isInBreak = true
      ∧ receiveRing ⟨1, 1, 1, false⟩ = .falseStart ∧ receiveRing ⟨0, 0, 0, true⟩ = .lineBreak
      ∧ receiveRing (ringChar 56 true) = .character 56 true true false
      ∧ receiveRing (ringChar 57 false) = .character 57 false true false
      ∧ receiveRing unsound = .character 1 false false false
      ∧ ([9, 0, 0x30] : List Byte).length = 3
      ∧ ([9, 0, 0x30] ++ [(56 : Byte)]).length ≠ 6 + frameLength ([9, 0, 0x30] ++ [56])
      ∧ ([9, 0, 0x33, 0, 1] ++ [(57 : Byte)]).length = 6 + frameLength ([9, 0, 0x33, 0, 1] ++ [57]) := by decide

theorem witness_FrameCompleteVerifies :
    let f := buildFrame 9 0 0x33 []
    Awake loaded ∧ f.length = 6 + frameLength f ∧ checkVerifies f = true
      ∧ (let g := f.dropLast ++ [0]; g.length = 6 + frameLength g ∧ checkVerifies g = false) := by decide +kernel

/-- R13: Ring In low for 3000 units after a framing-fault character puts DISCARD's end off by as much, to 3000 and 8
character times of 88 units. -/
theorem test_lowDoesNotCount :
    let s : State := { assembling (.discard 0) with ring.receiver := .waitHigh, ring.rate := .mbit1, now := 0 }
    let t := interCharacterEvent 3000 s
    t.now = 3704 ∧ t.ring.assembler = .waitMark ∧ t.ring.receiver = .waitEdge ∧ interCharacterEvent 0 s = s := by
  decide +kernel

theorem witness_TimeoutFalseStartAndRetry :
    Awake (assembling (.receiving [9] false 0)) ∧ (assembling (.receiving [9] false 0)).ring.receiver.isInBreak = false
      ∧ (assembling (.discard 0)).ring.assembler.isReceiving = false
      ∧ (assembling (.receiving [9] false 0)).ring.receiver ≠ .waitHigh
      ∧ (let s : State := { assembling (.discard 0) with ring.receiver := .waitHigh }
         Awake s ∧ s.ring.assembler = .discard 0 ∧ s.ring.receiver = .waitHigh)
      ∧ (let s : State := { loaded with mgmt.noticePending := true, mgmt.noticeRetryDue := true }
         Listening s ∧ s.ring.routine.length < 8)
      ∧ (let s : State := { loaded with
           mgmt.noticePending := true, mgmt.noticeRetryDue := true,
           ring.routine := List.replicate 8 (.ready ⟨.managementUnit, 0, 0x38, []⟩) }
         Listening s ∧ 8 ≤ s.ring.routine.length) := by decide

theorem witness_BreakTakesResyncActions :
    Awake loaded ∧ loaded.ring.receiver.isInBreak = false ∧ loaded.ring.receiver ≠ .lowAtReset
      ∧ (assembling (.receiving [9] false 0)).ring.assembler.isReceiving = true
      ∧ loaded.ring.assembler.isReceiving = false
      ∧ (∀ since base required, loaded.ring.tx ≠ .relay since base required)
      ∧ (withTx (.relay 5 0 9) loaded).ring.tx = .relay 5 0 9
      ∧ (State.afterReset { Pins.manual with ringIn := false } []).ring.receiver = .lowAtReset
      ∧ (State.afterReset Pins.manual []).now ≤ 11 * RingRate.bitTicks .mbit1 :=
  ⟨rfl, rfl, by decide, rfl, rfl, nofun, rfl, rfl, by decide⟩

theorem witness_BreaksEndAndLineReset :
    let s (long : Bool) : State := { loaded with ring.receiver := .inBreak 100 long, ring.relayPending := some 0 }
    Awake (s false) ∧ (s false).ring.receiver = .inBreak 100 false ∧ (159999 : Nat) < 160000
      ∧ (s true).ring.receiver = .inBreak 100 true
      ∧ repeaterOnly (s false) = false ∧ repeaterOnly { s false with mgmt.ownStation := 63 } = true
      ∧ resetRaises { busy with mgmt.masks := 1#18 <<< 17 } = true ∧ resetRaises (s false) = false := by decide

theorem witness_TransmitterCyclesAndArbiterChooses :
    let own : OwnFrame := ⟨.codeUnit, 11, 0x20, []⟩
    let r := withTx .ready loaded
    Awake loaded ∧ loaded.ring.tx = .gap 0 ∧ r.ring.tx = .ready ∧ r.ring.relayPending = none ∧ r.ring.forward = []
      ∧ r.ring.urgent = [] ∧ r.ring.routine = [] ∧ loaded.ring.tx ≠ .ready
      ∧ (withTx (.sending [1] true 0) loaded).ring.tx = .sending [1] true 0
      ∧ (withTx (.relay 0 0 9) loaded).ring.receiver.isInBreak = false
      ∧ ({ r with ring.relayPending := some 3 } : State).ring.relayPending = some 3
      ∧ ({ r with ring.forward := [[1]] } : State).ring.forward = [1] :: []
      ∧ ({ r with ring.urgent := [own] } : State).ring.urgent = own :: []
      ∧ ({ r with ring.routine := [.ready own] } : State).ring.routine = .ready own :: []
      ∧ ({ r with ring.routine := [.notice] } : State).ring.routine = .notice :: []
      ∧ ([9, 0] : List Byte)[1]? = some 0 ∧ 10 < 11 ∧ 7 < r.ring.rate.bitTicks := by decide

theorem witness_RoutineQueueTakesNoticesAndReplies :
    let masked : State := { loaded with mgmt.masks := 1 }
    repeaterOnly loaded = false ∧ loaded.latch .stopSet = false ∧ loaded.mask .stopSet = false
      ∧ ({ loaded with mgmt.latches := 1 } : State).latch .stopSet = true
      ∧ masked.mask .stopSet = true ∧ noticeWaits masked = false ∧ masked.mgmt.noticePending = false
      ∧ masked.ring.routine.length < 8
      ∧ noticeWaits { masked with ring.routine := [.notice] } = true
      ∧ (let s : State := { masked with
           ring.routine := List.replicate 8 (.ready ⟨.managementUnit, 0, 0x38, []⟩) }
         noticeWaits s = false ∧ 8 ≤ s.ring.routine.length)
      ∧ repeaterOnly { loaded with mgmt.ownStation := 63 } = true := by decide

/-- A part with one pass rule for every frame. -/
def ruled (a : PassAction) : State := { loaded with pass.rules := loaded.pass.rules.set 0 (some ⟨none, none, none, a⟩) }

theorem witness_PassStageDecides :
    let f (dest source kind : Byte) (payload : List Byte) := buildFrame dest source kind payload
    repeaterOnly loaded = false ∧ frameSource (f 0 9 0x38 []) = loaded.mgmt.ownStation
      ∧ frameSource (f 9 10 0x14 [0, 0, 0, 0]) ≠ loaded.mgmt.ownStation
      ∧ frameDest (f 9 10 0x14 [0, 0, 0, 0]) = loaded.mgmt.ownStation
      ∧ frameKind (f 9 10 0x14 [0, 0, 0, 0]) = 0x14 ∧ frameLength (f 9 10 0x14 [0, 0, 0, 0]) = 4
      ∧ frameLength (f 9 10 0x14 [0]) ≠ 4 ∧ isHandledKind (frameKind (f 9 0 0x50 [])) = false
      ∧ isHandledKind (frameKind (f 9 0 0x30 [])) = true ∧ frameKind (f 9 0 0x30 []) ≠ 0x14
      ∧ frameDest (f 12 5 0x50 []) ≠ loaded.mgmt.ownStation ∧ ruleFor loaded.pass.rules (f 12 5 0x50 []) = none
      ∧ loaded.ring.forward.length < 4
      ∧ 4 ≤ ({ loaded with ring.forward := List.replicate 4 [] } : State).ring.forward.length := by decide +kernel

theorem witness_PassAndDropRules :
    let f := buildFrame 12 5 0x50 []
    repeaterOnly (ruled .pass) = false ∧ frameSource f ≠ (ruled .pass).mgmt.ownStation
      ∧ frameDest f ≠ (ruled .pass).mgmt.ownStation ∧ ruleFor (ruled .pass).pass.rules f = some .pass
      ∧ ruleFor (ruled .drop).pass.rules f = some .drop ∧ (ruled .pass).ring.forward.length < 4 := by decide +kernel

theorem witness_SnoopTakesCopy :
    let s := ruled .snoop
    let f (code : Nat) := buildFrame 63 0 0x10 (leBytes 2 code)
    repeaterOnly s = false ∧ frameSource (f 427) ≠ s.mgmt.ownStation ∧ frameDest (f 427) ≠ s.mgmt.ownStation
      ∧ ruleFor s.pass.rules (f 427) = some .snoop ∧ frameKind (f 427) = 0x10 ∧ frameLength (f 427) = 2
      ∧ findProduct (BitVec.ofNat 16 (leNat (framePayload (f 427)))) s = some 2 ∧ s.dose.active = some 2
      ∧ findProduct (BitVec.ofNat 16 (leNat (framePayload (f 4711)))) s = none
      ∧ ({ s with dose.active := none } : State).dose.active ≠ some 2
      ∧ frameKind (buildFrame 63 0 0x50 []) ≠ 0x10 ∧ frameLength (buildFrame 63 0 0x10 []) ≠ 2 := by decide +kernel

theorem witness_TrimRewritesPair :
    (let s := ruled .trim
     let good := buildFrame 10 0 0x11 ([0x41, 1, 7] ++ leBytes 2 1500)
     let bad := buildFrame 10 0 0x11 [0x41, 2, 7]
     repeaterOnly s = false ∧ frameSource good ≠ s.mgmt.ownStation ∧ frameDest good ≠ s.mgmt.ownStation
       ∧ ruleFor s.pass.rules good = some .trim ∧ frameKind good = 0x11 ∧ frameKind (buildFrame 10 0 0x12 []) ≠ 0x11
       ∧ doseSetWellFormed (framePayload good) = true ∧ doseSetWellFormed (framePayload bad) = false) ∧
    ValveIn loaded (1 : Byte).toNat ∧ ValveIn loaded (24 : Byte).toNat ∧ (loaded.valve 24).base = 1500
      ∧ (loaded.valve 24).base ≠ 1520 ∧ loaded.valveInCount (25 : Byte).toNat = false := by decide +kernel

theorem witness_DiscreteInputsFilter :
    Awake loaded ∧ (loaded.input.filterOf .home).pin = false ∧ (loaded.input.filterOf .home).pin ≠ true
      ∧ (loaded.input.filterOf .home).filter = .stable ∧ (loaded.input.filterOf .home).time ≠ 0
      ∧ ((withFilter .home ⟨false, false, .stable, 0⟩ loaded).input.filterOf .home).time = 0
      ∧ (let s := withFilter .home ⟨false, true, .changing 0, 20⟩ loaded
         (s.input.filterOf .home).filter = .changing 0 ∧ (s.input.filterOf .home).pin = false)
      ∧ (withFilter .pocket rising loaded).input.pocket.filter = .changing 0 := by decide

theorem witness_DischargeAdvancesAndAdmits :
    let s (q : State) (v : ValveIndex) (present : Bool) : State :=
      { withFilter .pocket ⟨present, present, .stable, 20⟩ (withFilter .discharge rising q) with input.index := v }
    Awake (s busy .armed true) ∧ (s busy .armed true).input.discharge.filter = .changing 0
      ∧ (s busy .armed true).input.discharge.pin = true ∧ (s busy .unknown true).input.index = .unknown
      ∧ ValveIn (s busy (.atValve 23) true) 24 ∧ (23 < (s busy (.atValve 23) true).dose.valveCount)
      ∧ (24 = (s busy (.atValve 24) true).dose.valveCount)
      ∧ (s loaded .armed true).track.line = .idle ∧ (s busy .armed false).input.pocket.accepted = false
      ∧ (s busy .armed true).track.line = .run ∧ (s busy .armed true).track.queue.length < 128
      ∧ 128 ≤ (s full .armed true).track.queue.length := by decide +kernel

theorem witness_HomeArmsIndex :
    let s (v : ValveIndex) : State := { withFilter .home rising loaded with input.index := v }
    Awake (s .unknown) ∧ (s .unknown).input.home.filter = .changing 0 ∧ (s .unknown).input.home.pin = true
      ∧ (s .unknown).dose.valveCount ≠ 0 ∧ (∀ v, (s (.atValve 24)).input.index = .atValve v → 24 ≤ v)
      ∧ (23 < (s (.atValve 23)).dose.valveCount)
      ∧ ({ s .unknown with dose.valveCount := 0 } : State).dose.valveCount = 0 :=
  ⟨rfl, rfl, rfl, by decide, fun v h => by cases h; decide, by decide, rfl⟩

/-- A part whose encoder filter is CHANGING from (a, b) to a pair. -/
def turning (a b : Bool) (pins : Bool × Bool) : State :=
  { running with input.encoder := ⟨pins, (a, b), .changing 0, 1⟩ }

theorem witness_EncoderCountsSteps :
    Awake running ∧ running.input.encoder.pins ≠ (true, false) ∧ running.input.encoder.accepted ≠ (true, false)
      ∧ running.input.encoder.time ≠ 0 ∧ (turning false false (true, false)).input.encoder.accepted = (false, false)
      ∧ (turning false false (true, false)).input.encoder.pins ≠ (false, false)
      ∧ (turning true false (!false, true)).input.encoder.pins = (!false, true)
      ∧ (turning true false (false, !true)).input.encoder.pins = (false, !true)
      ∧ (turning true false (false, !true)).input.encoder.filter = .changing 0
      ∧ ({ running with input.encoder.time := 0 } : State).input.encoder.time = 0 := by decide

theorem witness_IllegalStepCountsError :
    let s := turning true false (false, true)
    Awake s ∧ s.input.encoder.filter = .changing 0 ∧ s.input.encoder.accepted = (true, false)
      ∧ s.input.encoder.pins = (!true, !false) := by decide

theorem witness_ArrivalMatchesOldestExpected :
    let s := withFilter .platformEye rising busy
    Awake s ∧ s.input.platformEye.filter = .changing 0 ∧ s.input.platformEye.pin = true ∧ s.track.line = .run
      ∧ (s.track.queue.map CanRecord.serial).Nodup ∧ matchingRecord s s.input.count = some (can 300 2000)
      ∧ s.lin = some 40 ∧ s.lout = some 360 ∧ 40 < 16777216
      ∧ s.weigh.capture = none ∧ s.weigh.slot = .none
      ∧ ({ s with weigh.slot := .pending 299 false } : State).weigh.slot ≠ .none
      ∧ (let both (pins : Bool × Bool) : State := { s with input.encoder := ⟨pins, (true, false), .changing 5, 1⟩ }
         (both (!false, true)).input.encoder.filter = .changing 5
           ∧ (both (!false, true)).input.encoder.accepted = (true, false)
           ∧ (both (!false, true)).input.encoder.pins = (!false, true)
           ∧ (both (false, !true)).input.encoder.pins = (false, !true)
           ∧ (both (!true, !false)).input.encoder.pins = (!true, !false)) := by decide +kernel

theorem witness_UnmatchedArrivalIsStray :
    let s (q : State) := withFilter .platformEye rising q
    Awake (s running) ∧ (s running).input.platformEye.filter = .changing 0
      ∧ (s running).input.platformEye.pin = true ∧ (s running).track.line = .run
      ∧ matchingRecord (s running) (s running).input.count = none ∧ (s running).track.queue.length < 128
      ∧ matchingRecord (s full) (s full).input.count = none ∧ 128 ≤ (s full).track.queue.length
      ∧ (s loaded).track.line = .idle ∧ (s running).lin = some 40 ∧ (s running).lout = some 360 := by decide +kernel

theorem witness_StationPointsActOnce :
    findRecord 300 busy.track.queue = some (can 300 2000) ∧ fromOrigin busy.dc (can 300 2000) = some 2400
      ∧ (can 300 2000).passed.print = false ∧ (busy.input.count - 2400).toNat < 2 ^ 31
      ∧ 2 ^ 31 ≤ (busy.input.count - 5001).toNat ∧ ({ print := true } : PointsPassed).print = true
      ∧ loaded.track.line = .idle ∧ busy.track.line = .run ∧ findRecord 299 busy.track.queue = none
      ∧ fromArrival busy.dg (can 300 2000) = none
      ∧ (∀ o, busy.track.owner = some o → o.serial ≠ 300)
      ∧ (let s (o : Bool) : State := { busy with track.owner := some ⟨300, 5000, 5001, o⟩ }
         (s false).track.owner = some ⟨300, 5000, 5001, false⟩ ∧ (s true).track.owner = some ⟨300, 5000, 5001, true⟩
           ∧ ((s false).input.count - 5000).toNat < 2 ^ 31 ∧ 2 ^ 31 ≤ ((s false).input.count - 5001).toNat) := by
  decide +kernel

/-- At one forward position event an old record's print point acts and its eye window, reached too, loses it. -/
theorem test_pointsInOrder :
    let t := recordPoints { busy with input.count := 5120 } 300
    t.track.queue.map CanRecord.serial = [301] ∧ t.ring.urgent.length = 1 ∧ t.track.counters.lost = 1
      ∧ (recordPoints t 300) = t := by decide +kernel

theorem witness_WindowClosesAct :
    findRecord 300 busy.track.queue = some (can 300 2000) ∧ (can 300 2000).eye = .expected
      ∧ ({ can 300 2000 with eye := .arrived } : CanRecord).eye ≠ .expected ∧ (can 300 2000).code = none
      ∧ ({ can 300 2000 with code := some .matched } : CanRecord).code ≠ none ∧ busy.verdict.lostRunLimit = 0
      ∧ (let s : State := { busy with verdict.lostRunLimit := 1 }
         0 < s.verdict.lostRunLimit ∧ s.verdict.lostRunLimit ≤ min 255 (s.verdict.lostRun + 1))
      ∧ (let out (v : Verdict) (x : Option ConfirmState) : CanRecord := { can 300 2000 with verdict := v, confirm := x }
         (out .accept (some .seen)).verdict = .accept ∧ (out .reject (some .seen)).confirm = some .seen
           ∧ (out .reject none).verdict = .reject ∧ (out .accept none).confirm ≠ some .seen)
      ∧ busy.mgmt.reportMode = .off ∧ ({ busy with mgmt.reportMode := .all } : State).mgmt.reportMode = .all
      ∧ repeaterOnly busy = false ∧ busy.ring.routine.length < 8
      ∧ 8 ≤ ({ busy with ring.routine := List.replicate 8 .notice } : State).ring.routine.length := by decide +kernel

/-- The exit of a rejected can that the confirm eye saw: an escape, a stop post and a CAN REPORT (Table 8-3, R193). -/
theorem test_escapeAtExit :
    let r : CanRecord := { can 300 2000 with
      verdict := .reject, reasons := [.noread], code := some .noread, arrival := some 3000, eye := .arrived,
      confirm := some .seen }
    let s : State := { busy with track.queue := [r], mgmt.reportMode := .rejects }
    let t := exitRecord 300 s
    t.track.queue = [] ∧ t.track.counters.exited = 1 ∧ t.verdict.counters.escapes = 1 ∧ t.stopOn = true
      ∧ t.latch .stopSet = true ∧ t.ring.routine = [.ready ⟨.managementUnit, 0, 0x3A,
          [0x2C, 1, 7, 0xAB, 1, 0, 0, 0, 0, 0x22, 0x40, 0, 0x41]⟩] := by decide +kernel

theorem witness_StartNeedsFiveConditions :
    Listening loaded ∧ running.track.line = .run ∧ loaded.track.line = .idle ∧ loaded.dose.active ≠ none
      ∧ distancesValid loaded.track.distances = true ∧ loaded.mgmt.filler ≠ 0 ∧ loaded.mgmt.coder ≠ 0
      ∧ loaded.dose.valveCount ≠ 0 ∧ loaded.weigh.factor ≠ 0 ∧ State.reset.dose.active = none
      ∧ distancesValid State.reset.track.distances = false ∧ State.reset.mgmt.filler = 0
      ∧ State.reset.dose.valveCount = 0 ∧ State.reset.weigh.factor = 0 := by decide +kernel

theorem witness_StopAndLineReset :
    Listening loaded ∧ loaded.track.line = .idle ∧ Listening busy ∧ busy.track.line = .run := by decide

theorem witness_SampleFrameDelivers :
    let capturing (n : Nat) : State := { loaded with weigh.capture := some ⟨n, 0⟩, weigh.sampleLoss := true }
    Awake (capturing 254) ∧ (capturing 254).weigh.sampleLoss = true ∧ (capturing 254).weigh.slot = .none
      ∧ (0x00010080#32).getLsbD 7 = true ∧ ((0x00010000#32).getLsbD 7 || (0x00010000#32).getLsbD 6) = false
      ∧ (capturing 254).weigh.capture = some ⟨254, 0⟩ ∧ 254 < 255
      ∧ (capturing 255).weigh.capture = some ⟨255, 0⟩
      ∧ repeaterOnly loaded = false ∧ loaded.weigh.sampleLoss = false ∧ loaded.ring.routine.length < 8
      ∧ (let w (test : Option TestWindow) : OpenWindow := ⟨300, false, 4, 64, ⟨3, 5, 9, 21⟩, false, 0, 0, false, test⟩
         (w none).test = none ∧ (w (some ⟨100, [1, 2, 3, 4], 3⟩)).test = some ⟨100, [1, 2, 3, 4], 3⟩
           ∧ (w none).settled = false ∧ ((w none).block.add 69).count = 4
           ∧ ((w none).block.add 69).most - ((w none).block.add 69).least ≤ (w none).settleBand
           ∧ ((w none).settleBand : Int) < ((w none).block.add 70).most - ((w none).block.add 70).least
           ∧ ({ w none with settled := true, samples := 1023 } : OpenWindow).samples < 1024)
      ∧ (let s : State := { loaded with weigh.zeroTracking := true, weigh.block := ⟨15, 12000, 12000, 180000⟩ }
         s.weigh.zeroTracking = true ∧ s.weigh.testMode = false ∧ s.weigh.slot = .none ∧ s.weigh.capture = none
           ∧ s.weigh.blockSize ≤ (s.weigh.block.add 12064).count
           ∧ (s.weigh.block.add 12064).most - (s.weigh.block.add 12064).least ≤ s.weigh.settleBand
           ∧ (s.weigh.settleBand : Int) < (s.weigh.block.add 12065).most - (s.weigh.block.add 12065).least
           ∧ s.weigh.run.blocks < 63) := by decide

/-- Zero tracking: the sample that completes the 64th quiet block adjusts the zero by a quarter of the difference (R109). -/
theorem test_zeroTracked :
    let s : State := { loaded with
      weigh.zeroTracking := true
      weigh.block := ⟨15, 12160, 12160, 15 * 12160⟩
      weigh.run := ⟨63, 63 * 16 * 12160⟩ }
    let t := run1 s (.sampleFrame (.frame (BitVec.ofNat 32 (12160 * 256))))
    t.weigh.zero = 12040 ∧ t.weigh.counters.adjustments = 1 ∧ t.weigh.run = ⟨0, 0⟩ := by decide +kernel

theorem witness_ShortFrameAndSampleLoss :
    Awake loaded ∧ loaded.weigh.lossTimer = some 0 ∧ 0 < loaded.weigh.sampleRate ∧ loaded.weigh.sampleLoss = false
      ∧ ({ loaded with weigh.sampleLoss := true } : State).weigh.sampleLoss = true ∧ loaded.weigh.receiver = .idle
      ∧ ({ loaded with weigh.receiver := .taking (List.replicate 31 true) } : State).weigh.receiver
          = .taking (List.replicate 31 true)
      ∧ (∀ i, i < 32 → (List.replicate 31 true ++ [false])[i]? = some ((0xFFFFFFFE#32).getLsbD (31 - i))) := by decide

theorem witness_ZeroAndTestMode :
    Listening loaded ∧ loaded.weigh.testMode = false ∧ loaded.weigh.capture = none ∧ loaded.weigh.slot = .none
      ∧ loaded.weigh.factor ≠ 0 ∧ State.reset.weigh.factor = 0
      ∧ ({ loaded with weigh.testMode := true } : State).weigh.testMode = true
      ∧ ({ loaded with weigh.capture := some ⟨0, 0⟩ } : State).weigh.capture ≠ none := by decide

theorem witness_WindowCloseWritesResult :
    let w : OpenWindow := ⟨300, false, 16, 64, SampleBlock.empty, true, 80, 24641000, false, none⟩
    let s : State := { busy with weigh.slot := .opened w }
    s.weigh.slot = .opened w ∧ findRecord w.serial s.track.queue = some (can 300 2000)
      ∧ (can 300 2000).weight = none ∧ ({ busy with weigh.slot := .pending 300 true } : State).weigh.slot = .pending 300 true
      ∧ (∀ n overlap, s.weigh.slot ≠ .pending n overlap) ∧ busy.weigh.slot = .none ∧ busy.weigh.capture = none
      ∧ ({ loaded with weigh.capture := some ⟨9, 9⟩ } : State).weigh.capture = some ⟨9, 9⟩ :=
  ⟨rfl, by decide +kernel, rfl, rfl, nofun, rfl, rfl, rfl⟩

theorem witness_CheckCharacterCatchesChanges :
    let t := codeText 427 (List.replicate 6 0x30) 48 0xFFF
    t.length = 16 ∧ classesHold t = true ∧ byteAt t 15 = checkChar (t.take 15)
      ∧ isCodeChar 0x30 = true ∧ isCodeChar 0x5A = true ∧ (0x30 : Byte) ≠ 0x5A := by decide +kernel

theorem witness_PrintAndTriggerPoints :
    let on : State := { busy with code.enable := true, code.readState := .ready }
    repeaterOnly busy = false ∧ findRecord 300 busy.track.queue = some (can 300 2000)
      ∧ busy.ring.urgent.length < 8
      ∧ 8 ≤ ({ busy with ring.urgent := List.replicate 8 ⟨.codeUnit, 11, 0x20, []⟩ } : State).ring.urgent.length
      ∧ on.code.enable = true ∧ on.code.sending = none ∧ on.code.readState ≠ .receiving
      ∧ on.code.readState ≠ .inBreak ∧ on.code.underWay = false ∧ busy.code.enable = false
      ∧ ({ on with code.sending := some ⟨0x54, 0⟩ } : State).code.sending = some ⟨0x54, 0⟩ ∧ 0 < on.code.rate
      ∧ 9 * 8000000 ≤ (625 - 0) * on.code.rate ∧ (625 - 0) * on.code.rate < (9 + 1) * 8000000 := by decide +kernel

/-- A part whose code port is on, in a read state. -/
def port (r : ReadState) : State := { running with code.enable := true, code.readState := r, code.idleTimer := some 0 }

theorem witness_CodeCharactersFramed :
    Awake (port .waitIdle) ∧ (port .waitIdle).code.readState ≠ .off ∧ (port .ready).code.readState ≠ .inBreak
      ∧ (port .receiving).code.sending = none ∧ (port .receiving).code.lineHigh = true
      ∧ (port .ready).code.lowSince = none
      ∧ receiveCode (port .ready).code.format ⟨1, 1, 1, false⟩ = .falseStart
      ∧ receiveCode (port .ready).code.format ⟨0, 0, 0, true⟩ = .lineBreak
      ∧ receiveCode (port .ready).code.format (codeChar 0x41) = .character 0x41 false false false
      ∧ receiveCode (port .ready).code.format ⟨2, 2, 2, true⟩ = .character 1 false true false
      ∧ (port .ready).code.marks.discarding = false ∧ (port .ready).code.fifo.length < 32
      ∧ ({ port .ready with code.marks.discarding := true } : State).code.marks.discarding = true
      ∧ 32 ≤ ({ port .ready with code.fifo := List.replicate 32 0 } : State).code.fifo.length := by decide

theorem witness_CodeBreakReportsNoRead :
    let s : State := { port .receiving with track.queue := [can 300 3800] }
    Awake s ∧ s.code.readState = .receiving ∧ s.code.sending = none ∧ s.code.lineHigh = true ∧ s.code.lowSince = none
      ∧ s.track.line = .run ∧ candidates s s.input.count = [can 300 3800]
      ∧ candidates (port .ready) (port .ready).input.count = []
      ∧ ({ port .ready with track.line := .idle } : State).track.line = .idle
      ∧ ({ port .waitIdle with code.lowSince := some 0 } : State).code.lowSince = some 0
      ∧ loaded.code.readState = .off ∧ (port .inBreak).code.readState = .inBreak
      ∧ ({ port .waitIdle with code.lineHigh := false } : State).code.lineHigh = false := by decide +kernel

theorem witness_IdleTimerEndsRead :
    Awake (port .receiving) ∧ (port .receiving).code.idleTimer = some 0 ∧ (port .receiving).code.sending = none
      ∧ (port .receiving).code.underWay = false ∧ 0 < (port .receiving).code.rate
      ∧ (port .waitIdle).code.readState = .waitIdle ∧ (port .receiving).code.readState = .receiving
      ∧ ({ port .receiving with track.line := .idle } : State).track.line = .idle
      ∧ (port .receiving).track.line = .run ∧ validateRead (port .receiving).code.marks [] = .badcode .length
      ∧ validateRead {} (codeText 427 (List.replicate 6 0x30) 7 300) = .wellFormed
      ∧ candidates (port .receiving) 5000 = []
      ∧ candidates { port .receiving with track.queue := [can 300 3800] } 5000 = [can 300 3800] := by decide +kernel

theorem witness_ReadsAssignedByTag :
    let s : State := { port .ready with track.queue := [can 300 3800] }
    let own := codeText 427 (List.replicate 6 0x30) 7 300
    let other := codeText 427 (List.replicate 6 0x30) 7 301
    let named (t : List Byte) := fun r : CanRecord => r.serial.toNat == readSerial t && r.valve == readValve t
    candidates (port .ready) 5000 = [] ∧ candidates s 5000 = [can 300 3800]
      ∧ (candidates s 5000).find? (named own) = some (can 300 3800)
      ∧ (candidates s 5000).find? (named other) = none := by decide +kernel

/-- A part with an exchange outstanding on valve 24. -/
def exchanging (st : ValveState) (op : ExchangeOp) : State :=
  withValve 24
    { state := st, base := 1500, generation := 40, pendingTrim := some (-6), exchange := some (op, 41),
      timer := some 9000 } loaded

theorem witness_FillAckActsByClass :
    Listening (exchanging .awaitAck .dose) ∧ (exchanging .awaitAck .dose).valveInCount (25 : Byte).toNat = false
      ∧ ackOp 0x20 = none ∧ ValveIn (exchanging .awaitAck .dose) (24 : Byte).toNat
      ∧ ackOp 0x11 = some .dose ∧ ackOp 0x12 = some .off ∧ ackOp 0x13 = some .on
      ∧ (let x := (exchanging .awaitAck .dose).valve 24
         x.state = .awaitAck ∧ x.exchange.map Prod.snd = some 41 ∧ x.exchange.map Prod.snd ≠ some 40
           ∧ x.pendingTrim = some (-6) ∧ awaits x.state .dose = true ∧ awaits x.state .off = false)
      ∧ ((exchanging .locking .off).valve 24).state = .locking
      ∧ ((exchanging .releasing .on).valve 24).state = .releasing
      ∧ (let x := (withValve 24 { state := .hold, abandonedTag := some 7 } loaded).valve 24
         x.state ≠ .awaitAck ∧ x.abandonedTag = some 7 ∧ awaits x.state .dose = false) := by decide

theorem witness_ExchangeAndPulseExpire :
    let s := exchanging .locking .off
    Awake s ∧ s.dose.valves.length = 48 ∧ 1 ≤ (24 : Byte).toNat ∧ (24 : Byte).toNat ≤ 48
      ∧ (s.valve (24 : Byte).toNat).timer = some 9000
      ∧ ({ s with verdict.pulse := some 5 } : State).verdict.pulse = some 5 := by decide

theorem witness_SelectProductChangesAll :
    let s := exchanging .awaitAck .dose
    Listening s ∧ findProduct 428 s = none ∧ findProduct 427 s = some 2 ∧ s.dose.active = some 2
      ∧ ({ s with dose.active := none } : State).dose.active ≠ some 2 ∧ 48 ≤ s.dose.valves.length
      ∧ (s.valve 24).state = .awaitAck ∧ (s.valve 1).state ≠ .awaitAck := by decide +kernel

theorem witness_ReleaseAndClearValves :
    let s := withValve 24 { state := .lockedOut } (withValve 1 { state := .fault } loaded)
    Listening s ∧ s.valveInCount (25 : Byte).toNat = false ∧ ValveIn s (24 : Byte).toNat
      ∧ ValveIn s (1 : Byte).toNat ∧ (s.valve 24).state = .lockedOut ∧ (s.valve 1).state = .fault
      ∧ (s.valve 1).state ≠ .lockedOut ∧ s.mgmt.filler ≠ 0 ∧ s.ring.urgent.length < 8
      ∧ ({ s with mgmt.filler := 0 } : State).mgmt.filler = 0
      ∧ 8 ≤ ({ s with ring.urgent := List.replicate 8 ⟨.codeUnit, 11, 0x20, []⟩ } : State).ring.urgent.length := by
  decide +kernel

theorem witness_EvaluationTrimsValve :
    let s (x : Int) := withValve 24 { state := .regulating, base := 1500, window := List.replicate 8 x } loaded
    let error (x : Int) := ((s x).valve 24).window.sum.tdiv (product.window.toNat : Int) - product.target.toInt
    repeaterOnly (s 35500) = false ∧ ValveIn (s 35500) 24 ∧ (error 35600).natAbs ≤ product.deadband.toNat
      ∧ product.deadband.toNat < (error 35802).natAbs ∧ newTrim product 0 (error 35802) ≠ 0
      ∧ product.deadband.toNat < (error 35000).natAbs ∧ newTrim product 200 (error 35000) = 200 ∧ (s 35802).ring.urgent.length < 8 := by decide +kernel

theorem witness_GateDecisionJudges :
    let r : CanRecord := { can 300 2000 with valve := 24, code := some .noread }
    let s : State := { busy with
      track.queue := [r]
      dose.valves := busy.dose.valves.set 23 { state := .regulating, base := 1500, limitCount := 5 } }
    findRecord 300 s.track.queue = some r ∧ s.valveInCount 0 = false ∧ ValveIn s r.valve
      ∧ (Reason.all.filter (reasonFound s r)).any (fun x => x.mandatory || maskEnables (rejectMask s r) x) = true
      ∧ s.activeProduct = some product ∧ 0 < product.lockout.toNat ∧ product.lockout.toNat ≤ 5
      ∧ (s.valve 24).state = .regulating ∧ repeaterOnly s = false ∧ s.ring.urgent.length < 8
      ∧ ({ s with dose.active := none } : State).activeProduct = none
      ∧ enteredWeight s { r with code := none, weight := some ⟨35500, 80, .good, false⟩ } = some 35500
      ∧ product.window.toNat ≤ (List.replicate 7 (0 : Int)).length + 1
      ∧ (s.valve 24).window.length + 1 < product.window.toNat := by decide +kernel

theorem witness_ConfirmEventAssigned :
    let r : CanRecord := { can 300 2000 with arrival := some 3400, eye := .arrived }
    let s (q : State) := withFilter .confirmEye rising q
    Awake (s busy) ∧ (s busy).input.confirmEye.filter = .changing 0 ∧ (s busy).input.confirmEye.pin = true
      ∧ (s loaded).track.line = .idle ∧ (s busy).track.line = .run
      ∧ confirmCandidate (s busy) (s busy).input.count = none
      ∧ confirmCandidate (s { busy with track.queue := [r] }) 5000 = some r
      ∧ busy.dk.isSome = true ∧ ∀ wk, busy.wk = some wk → wk < 2 ^ 30 := by decide +kernel

theorem witness_StopLatchEventsAndCountersClear :
    Listening loaded ∧ loaded.verdict.stopLatch.isEmpty = true
      ∧ ({ loaded with verdict.stopLatch := { escape := true } } : State).verdict.stopLatch.isEmpty = false := by
  decide

theorem witness_RequestsAnswered :
    Listening loaded ∧ tableShape (2 : Byte).toNat = some ⟨0, 23, 8, 8⟩ ∧ tableShape (11 : Byte).toNat = none
      ∧ (6 : Byte).toNat * 8 ≤ 50 ∧ 50 < (7 : Byte).toNat * 8 ∧ (18 : Byte).toNat + (6 : Byte).toNat - 1 ≤ 23
      ∧ 23 < (19 : Byte).toNat + (6 : Byte).toNat - 1 ∧ 23 < (24 : Byte).toNat
      ∧ isBadTableWrite ([9] ++ [0, 1]) = true ∧ actionArgumentLength 14 = none ∧ actionArgumentLength 4 = some 2
      ∧ requestOf (.start 62) = some (62, 0x32) ∧ (62 : Byte).toNat ≤ 62 ∧ 63 ≤ (63 : Byte).toNat := by decide

theorem witness_StationsAndDistancesWritten :
    Listening loaded ∧ loaded.track.line = .idle ∧ running.track.line = .run ∧ (62 : Byte).toNat < 63
      ∧ (62 : Byte) ≠ loaded.mgmt.ownStation ∧ (9 : Byte) = loaded.mgmt.ownStation ∧ 63 ≤ (63 : Byte).toNat
      ∧ loaded.track.distances.length = 11 ∧ distanceInRange (4 : Byte).toNat 3100 = true
      ∧ (orderConditions (loaded.track.distances.set 4 (some 3100))).all (fun c => c.2) = true
      ∧ distanceInRange 4 1000 = true
      ∧ (orderConditions (loaded.track.distances.set 4 (some 1000))).all (fun c => c.2) = false
      ∧ distanceInRange 3 0 = false ∧ distanceInRange 11 2 = false
      ∧ (orderConditions loaded.track.distances).all (fun c => c.2) = true := by decide +kernel

theorem witness_TableEntriesWritten :
    let bytes := productEntry product
    Listening loaded ∧ decodeRule [0xFF, 63, 0, 0x13] = some (some ⟨none, some 63, none, .trim⟩)
      ∧ decodeRule [0xFF, 64, 0, 0] = none ∧ bytes.length = 34 ∧ productInUse loaded 2 = true
      ∧ productInUse loaded 3 = false ∧ (decodeProduct bytes).isEmpty = false
      ∧ sharesCode (loaded.dose.products.set 3 (decodeProduct bytes)) 3 = true
      ∧ (decodeProduct (leBytes 2 428 ++ bytes.drop 2)).valuesHold = true
      ∧ sharesCode (loaded.dose.products.set 15 (decodeProduct (leBytes 2 428 ++ bytes.drop 2))) 15 = false
      ∧ ValveIn loaded (24 : Byte).toNat ∧ (loaded.valve 24).state = .regulating
      ∧ ((exchanging .locking .off).valve 24).state.inExchange = true
      ∧ ((withValve 24 { state := .fault } loaded).valve 24).state = .fault
      ∧ loaded.dose.valveCount < (25 : Byte).toNat ∧ loaded.weigh.test.pointer < loaded.weigh.test.count
      ∧ testWeightInRange 14 (leInt [0, 0, 0, 0]) = false := by decide +kernel

theorem witness_ValveCountWritten :
    Listening loaded ∧ running.track.line = .run ∧ loaded.track.line = .idle ∧ (entry 7).toInt < 8
      ∧ 48 < (entry 49).toInt ∧ 8 ≤ (entry 8).toInt ∧ (entry 48).toInt ≤ 48 ∧ loaded.dose.valveCount ≤ 48
      ∧ loaded.dose.valves.length = 48 ∧ (entry 8).toInt < 24 ∧ (loaded.valve 24).state = .regulating
      ∧ ((exchanging .locking .off).valve 24).state.inExchange = true
      ∧ ((withValve 24 { state := .fault } loaded).valve 24).state = .fault
      ∧ (entry 48).toInt ≠ loaded.dose.valveCount ∧ (entry 24).toInt = loaded.dose.valveCount
      ∧ ((List.range 25).all fun v => !((loaded.valve v).state.inExchange)) = true := by decide +kernel

theorem witness_UnitSettingsWritten :
    Listening loaded ∧ (entry 0).toInt = 0 ∧ (entry 255).toInt = 255 ∧ (entry 256).toInt = 256
      ∧ (entry (-1)).toInt < 0 ∧ (loaded.input.filterOf .home).filter = .stable
      ∧ ((withFilter .home rising loaded).input.filterOf .home).filter = .changing 0
      ∧ (turning true false (true, true)).input.encoder.filter = .changing 0
      ∧ loaded.input.encoder.filter = .stable ∧ (entry 63).toInt = 63 ∧ (entry 1200).toInt = 1200
      ∧ ({ loaded with weigh.lossTimer := none } : State).weigh.lossTimer = none
      ∧ loaded.weigh.lossTimer = some 0 ∧ loaded.now < 0 + (4 * 8000000 + (1200 - 1)) / 1200
      ∧ (entry 64).toInt = 64 ∧ (entry 65535).toInt = 65535 ∧ (entry 16777216).toInt = 16777216
      ∧ loaded.track.line = .idle ∧ running.track.line = .run
      ∧ ((leBytes 8 (0x5A3030303030 : Nat)).take 6).all isCodeChar = true
      ∧ (leBytes 8 (0x5A3030303030 : Nat)).drop 6 = [0, 0]
      ∧ ((leBytes 8 0).take 6).all isCodeChar = false := by decide +kernel

theorem witness_PortAndPlainSettingsWritten :
    Listening loaded ∧ isPortRate (entry 921600).toInt = true ∧ loaded.code.enable = false
      ∧ (port .ready).code.enable = true ∧ isPortRate (entry 0).toInt = false
      ∧ (entry 10).toInt = 10 ∧ (entry 2550).toInt % 10 = 0 ∧ (entry 5).toInt = 5 ∧ (entry 255).toInt = 255
      ∧ (23 : Byte).toNat + (1 : Byte).toNat ≤ 24 ∧ (leBytes 8 2).length = 8 * (1 : Byte).toNat
      ∧ entriesOf 8 23 1 (leBytes 8 2) = [(23, leBytes 8 2)]
      ∧ settingRefusal (counted loaded) (23, leBytes 8 2) = none
      ∧ settingRefusal (counted loaded) (23, leBytes 8 3) = some .badValue := by decide +kernel

theorem witness_Invariants :
    CansBalance { busy with track.counters.admitted := 2 } ∧ WithinCapacity full ∧ IdleHoldsNothing loaded
      ∧ SerialsDistinct busy ∧ waitingNotices { busy with ring.routine := [.notice] } = 1
      ∧ busy.mgmt.noticePending = false ∧ checkVerifies (buildFrame 12 5 0x50 []) = true := by decide +kernel

/-- The valves of a part with an exchange outstanding meet ExchangesTimed. -/
theorem witness_ExchangesTimed : ExchangesTimed (exchanging .locking .off) := by
  refine ⟨by decide, by decide, fun v h1 h2 => ?_⟩
  interval_cases v <;> decide

end Sys2Proof.Tests
end

section
/-! PROOFS. A DOSE SET under TRIM: what its rewriting keeps, and that the rewritten frame's check
verifies (R36, R37). -/

namespace Sys2Proof.Machine

/-! ## Bytes of joined and cut lists -/

theorem byteAt_append_left {a : List Byte} (b : List Byte) {i : Nat} (h : i < a.length) :
    byteAt (a ++ b) i = byteAt a i := List.getD_append _ _ _ _ h

theorem byteAt_append_right {a : List Byte} (b : List Byte) (i : Nat) :
    byteAt (a ++ b) (a.length + i) = byteAt b i := by
  rw [byteAt, List.getD_append_right _ _ _ _ (Nat.le_add_right _ _), Nat.add_sub_cancel_left, byteAt]

theorem byteAt_take (a : List Byte) {i n : Nat} (h : i < n) : byteAt (a.take n) i = byteAt a i := by
  simp [byteAt, List.getD_eq_getElem?_getD, h]

theorem byteAt_drop (a : List Byte) (i n : Nat) : byteAt (a.drop n) i = byteAt a (n + i) := by
  simp [byteAt, List.getD_eq_getElem?_getD]

/-! ## Pairs -/

theorem length_rewritePair {pair : List Byte} (s : State) (h : pair.length = 3) :
    (rewritePair pair s).1.length = 3 := by
  unfold rewritePair
  dsimp only
  split
  · simp
  · exact h

/-- A pair keeps its valve byte. -/
theorem byteAt_rewritePair (pair : List Byte) (s : State) : byteAt (rewritePair pair s).1 0 = byteAt pair 0 := by
  unfold rewritePair
  dsimp only
  split <;> rfl

theorem length_rewritePairs_chunks (k : Nat) {bs : List Byte} (s : State) (h : 3 * k ≤ bs.length) :
    (rewritePairs (chunks 3 k bs) s).1.length = 3 * k := by
  induction k generalizing bs s with
  | zero => rfl
  | succ k ih =>
    have hd : 3 * k ≤ (bs.drop 3).length := by simp; omega
    have ht : (bs.take 3).length = 3 := by simp; omega
    simp only [chunks, rewritePairs, List.length_append, length_rewritePair s ht, ih _ hd]
    omega

/-- Every pair keeps its valve byte. -/
theorem byteAt_rewritePairs_chunks {k i : Nat} {bs : List Byte} (s : State) (h : 3 * k ≤ bs.length) (hi : i < k) :
    byteAt (rewritePairs (chunks 3 k bs) s).1 (3 * i) = byteAt bs (3 * i) := by
  induction k generalizing bs s i with
  | zero => omega
  | succ k ih =>
    have hl : (rewritePair (bs.take 3) s).1.length = 3 := length_rewritePair s (by simp; omega)
    simp only [chunks, rewritePairs]
    cases i with
    | zero => rw [byteAt_append_left _ (by omega), Nat.mul_zero, byteAt_rewritePair, byteAt_take _ (by omega)]
    | succ i =>
      have e : 3 * (i + 1) = (rewritePair (bs.take 3) s).1.length + 3 * i := by omega
      rw [e, byteAt_append_right, ih _ (by simp; omega) (by omega), byteAt_drop, hl]

/-! ## The whole frame -/

theorem length_framePayload {f : List Byte} (h : f.length = 6 + frameLength f) :
    (framePayload f).length = frameLength f := by
  simp [framePayload, slice, h]
  omega

/-- A well-formed DOSE SET holds tag, count and that many pairs. -/
theorem frameLength_of_doseSet {f : List Byte} (h : f.length = 6 + frameLength f)
    (hw : doseSetWellFormed (framePayload f) = true) :
    frameLength f = 2 + 3 * (byteAt (framePayload f) 1).toNat := by
  have hl := length_framePayload h
  simp only [doseSetWellFormed, Bool.and_eq_true, beq_iff_eq] at hw
  omega

theorem byteAt_framePayload {f : List Byte} {i : Nat} (h : i < frameLength f) :
    byteAt (framePayload f) i = byteAt f (4 + i) := by
  rw [framePayload, slice, byteAt_take _ h, byteAt_drop]

/-- The first six bytes of a frame are its header and the first two of its payload. -/
theorem take_header_payload {f : List Byte} (h : 2 ≤ frameLength f) :
    f.take 4 ++ (framePayload f).take 2 = f.take 6 := by
  rw [framePayload, slice, List.take_take, Nat.min_eq_left h, ← List.take_add]

/-- The rewritten pairs of a well-formed DOSE SET. -/
def rewrittenPairs (f : List Byte) (s : State) : List Byte :=
  (rewritePairs (chunks 3 (byteAt (framePayload f) 1).toNat ((framePayload f).drop 2)) s).1

section
variable {f : List Byte} (s : State) (h : f.length = 6 + frameLength f)
  (hw : doseSetWellFormed (framePayload f) = true)
include h hw

theorem rewriteFrame_eq : (rewriteFrame f s).1 = withCheck (f.take 6 ++ rewrittenPairs f s) := by
  rw [← take_header_payload (by rw [frameLength_of_doseSet h hw]; omega)]
  rfl

theorem length_rewrittenPairs : (rewrittenPairs f s).length = 3 * (byteAt (framePayload f) 1).toNat :=
  length_rewritePairs_chunks _ s (by
    have := frameLength_of_doseSet h hw
    simp only [List.length_drop, length_framePayload h]
    omega)

/-- The rewritten pairs carry the valve bytes of the frame. -/
theorem byteAt_rewrittenPairs {i : Nat} (hi : i < (byteAt (framePayload f) 1).toNat) :
    byteAt (rewrittenPairs f s) (3 * i) = byteAt f (6 + 3 * i) := by
  have hL := frameLength_of_doseSet h hw
  unfold rewrittenPairs
  rw [byteAt_rewritePairs_chunks s (by simp only [List.length_drop, length_framePayload h]; omega) hi, byteAt_drop,
    byteAt_framePayload (by omega)]
  congr 1
  omega

/-- What a rewritten frame's check covers has the length that its length byte gives. -/
theorem length_rewrittenBody : (f.take 6 ++ rewrittenPairs f s).length = 4 + frameLength f := by
  rw [List.length_append, length_rewrittenPairs s h hw, frameLength_of_doseSet h hw]
  simp
  omega

omit hw in
theorem frameLength_rewrittenBody : frameLength (f.take 6 ++ rewrittenPairs f s) = frameLength f := by
  rw [frameLength, byteAt_append_left _ (by simp; omega), byteAt_take _ (by omega), frameLength]

/-- A rewritten frame carries a check that verifies (R37). -/
theorem checkVerifies_rewriteFrame : checkVerifies (rewriteFrame f s).1 = true := by
  rw [rewriteFrame_eq s h hw]
  exact checkVerifies_withCheck _ (by rw [length_rewrittenBody s h hw, frameLength_rewrittenBody s h])

end

end Sys2Proof.Machine
end

section
/-! PROOFS. What the operations of the blocks do to the queues. -/

namespace Sys2Proof.Machine

/-! ## The learned-distance list and the arbiter's choice -/

/-- The learned-distance list never outgrows its capacity (R69). -/
theorem length_learn (d : Nat) (l : List Nat) (h : l.length ≤ 16) : (learn d l).length ≤ 16 := by
  unfold learn Config.learnedCapacity
  split <;> simp <;> omega

/-- A frame that is forwarded after the arbiter's choice was forwarded before, or waited in the Forward Queue (R22). -/
theorem arbitrate_forwards {t : State} {bytes : List Byte} {since : Ticks}
    (h : (arbitrate t).ring.tx = .sending bytes false since) :
    t.ring.tx = .sending bytes false since ∨ bytes ∈ t.ring.forward := by
  unfold arbitrate at h
  split at h
  · split at h
    · cases h
    · split at h
      case h_1 hf => cases h; exact .inr (by simp [hf])
      · split at h
        · cases h
        · split at h
          · cases h
          · exact .inl h
  · exact .inl h

/-! ## The invariants of the queues, carried from one state to another -/

/-- `t` has the capacities (R18, R19, R21, R60, R69, R130) and the verified forwarded frames (R17, R23) that `s` has. -/
def KeepsQueues (s t : State) : Prop :=
  (WithinCapacity s → WithinCapacity t) ∧ (ForwardedVerify s → ForwardedVerify t)

/-! For each operation `f` of the model, `KeepsQueues.f` says that `f` keeps the two invariants. An update of other
fields keeps them by unfolding, so `h` itself closes its case. -/

namespace KeepsQueues

variable {s t u : State}

theorem refl (s : State) : KeepsQueues s s := ⟨id, id⟩

theorem trans (h : KeepsQueues s t) (h' : KeepsQueues t u) : KeepsQueues s u :=
  ⟨fun c => h'.1 (h.1 c), fun v => h'.2 (h.2 v)⟩

/-- A choice between two states that keep the invariants. -/
theorem ite {c : Prop} [Decidable c] (h : KeepsQueues s t) (h' : KeepsQueues s u) :
    KeepsQueues s (if c then t else u) := by
  split
  · exact h
  · exact h'

/-- The Tracking Queue may lose records, and gain nothing. -/
theorem queue (h : KeepsQueues s t) {q : List CanRecord} (hq : q.length ≤ t.track.queue.length) :
    KeepsQueues s { t with track.queue := q } :=
  h.trans ⟨fun ⟨hf, hu, hr, hk, hl, hc⟩ => ⟨hf, hu, hr, le_trans hq hk, hl, hc⟩, id⟩

/-- The Routine Queue may take a frame while it has room. -/
theorem routine (h : KeepsQueues s t) {q : List RoutineFrame} (hq : q.length ≤ max 8 t.ring.routine.length) :
    KeepsQueues s { t with ring.routine := q } :=
  h.trans ⟨fun ⟨hf, hu, hr, hk, hl, hc⟩ => ⟨hf, hu, by simpa [hr] using hq, hk, hl, hc⟩, id⟩

/-- The Urgent Queue may take a frame while it has room. -/
theorem urgent (h : KeepsQueues s t) {q : List OwnFrame} (hq : q.length ≤ max 8 t.ring.urgent.length) :
    KeepsQueues s { t with ring.urgent := q } :=
  h.trans ⟨fun ⟨hf, hu, hr, hk, hl, hc⟩ => ⟨hf, by simpa [hu] using hq, hr, hk, hl, hc⟩, id⟩

/-- A step kept at each element of a list is kept along the list. -/
theorem foldl {α : Type} {f : State → α → State} {l : List α} (h : KeepsQueues s t)
    (hf : ∀ {a t}, KeepsQueues s t → KeepsQueues s (f t a)) : KeepsQueues s (l.foldl f t) := by
  induction l generalizing t with
  | nil => exact h
  | cons a l ih => exact ih (hf h)

/-! ## Shared operations -/

theorem appendUrgent {f : OwnFrame} {b : Bool} (h : KeepsQueues s t) (e : appendUrgent f t = (b, u)) :
    KeepsQueues s u := by
  rcases appendUrgent_cases f t with ⟨hu, -⟩ | ⟨hu, -, hl⟩ <;> rw [hu] at e <;> cases e
  · exact h
  · exact h.urgent (by simp; omega)

theorem appendRoutine {f : RoutineFrame} {b : Bool} (h : KeepsQueues s t) (e : appendRoutine f t = (b, u)) :
    KeepsQueues s u := by
  rcases appendRoutine_cases f t with ⟨hu, -⟩ | ⟨hu, -, hl⟩ <;> rw [hu] at e <;> cases e
  · exact h
  · exact h.routine (by simp; omega)

theorem queueNotice {b : Bool} (h : KeepsQueues s t) (e : queueNotice t = (b, u)) : KeepsQueues s u := by
  unfold Machine.queueNotice at e
  split at e <;> rename_i e' <;> have hu := h.appendRoutine e' <;> cases e <;> exact hu

theorem withdraw {o : Owner} {k : Byte} {n : Nat} (h : KeepsQueues s t) (e : withdraw o k t = (n, u)) :
    KeepsQueues s u := by
  cases e
  exact h.urgent (le_max_of_le_right (List.length_filter_le _ _))

theorem raise {l : EventLatch} (h : KeepsQueues s t) : KeepsQueues s (raise l t) := by
  have hq : (Machine.raise l t).ring.routine.length ≤ max 8 t.ring.routine.length := by
    rcases raise_routine l t with hr | ⟨hr, -, -, hl⟩ <;> rw [hr]
    · exact le_max_right _ _
    · simp; omega
  rw [raise_frame]
  exact h.routine hq

theorem appendReply {d k : Byte} {a : Answer} (h : KeepsQueues s t) : KeepsQueues s (appendReply d k a t) := by
  unfold Machine.appendReply
  dsimp only
  split <;> rename_i e <;> exact (h.appendRoutine e :)

theorem writeRecord {n : Serial} {f : CanRecord → CanRecord} (h : KeepsQueues s t) :
    KeepsQueues s (writeRecord n f t) := h.queue (by simp)

theorem markStale {v : Nat} (h : KeepsQueues s t) : KeepsQueues s (markStale v t) := h.queue (by simp)

theorem markAllStale (h : KeepsQueues s t) : KeepsQueues s (markAllStale t) := h.queue (by simp)

/-! ## Code Unit -/

theorem printPoint {n : Serial} (h : KeepsQueues s t) : KeepsQueues s (printPoint n t) := by
  unfold Machine.printPoint
  split
  · exact h
  · dsimp only
    split <;> rename_i e <;> exact .writeRecord (h.appendUrgent e :)

theorem triggerPoint (h : KeepsQueues s t) : KeepsQueues s (triggerPoint t) := .ite h h

theorem writeCode {n : Serial} {x : CodeResult} (h : KeepsQueues s t) : KeepsQueues s (writeCode n x t) :=
  .writeRecord h

theorem assignOldest {e : Count} {x : CodeResult} (h : KeepsQueues s t) : KeepsQueues s (assignOldest e x t).2 := by
  unfold Machine.assignOldest
  split
  · exact h
  · exact .writeCode h

theorem assignTagged {e : Count} {x : List Byte} (h : KeepsQueues s t) : KeepsQueues s (assignTagged e x t).2 := by
  unfold Machine.assignTagged
  dsimp only
  split
  · split <;> exact .writeCode h
  · split
    · exact h
    · exact .writeCode h

theorem assignRead {e : Count} {o : ReadOutcome} {x : List Byte} (h : KeepsQueues s t) :
    KeepsQueues s (assignRead e o x t).2 := by
  unfold Machine.assignRead
  split
  · exact h
  · split
    · exact .assignTagged h
    · exact .assignOldest h
    · exact h

/-- The receive FIFO may take a character while it has room. -/
theorem fifo (h : KeepsQueues s t) {q : List Byte} (hq : q.length ≤ max 32 t.code.fifo.length) :
    KeepsQueues s { t with code.fifo := q } :=
  h.trans ⟨fun ⟨hf, hu, hr, hk, hl, hc⟩ => ⟨hf, hu, hr, hk, hl, by simpa [hc] using hq⟩, id⟩

theorem emptyRead (h : KeepsQueues s t) : KeepsQueues s (emptyRead t) := h.fifo (q := []) (by simp)

theorem abandonRead (h : KeepsQueues s t) : KeepsQueues s (abandonRead t) := .ite (.emptyRead h) h

theorem takeCharacter {d : Byte} {p f : Bool} (h : KeepsQueues s t) : KeepsQueues s (takeCharacter d p f t) := by
  unfold Machine.takeCharacter
  dsimp only
  split
  · exact h
  · split
    · exact h
    · split
      · rename_i hl
        exact h.fifo (by simp [Config.fifoCapacity] at hl ⊢; omega)
      · exact h

theorem frameCharacter {d : Byte} {p f : Bool} (h : KeepsQueues s t) : KeepsQueues s (frameCharacter d p f t) := by
  unfold Machine.frameCharacter
  split
  · exact h
  · exact .takeCharacter h
  · exact .takeCharacter h
  · exact h
  · exact h

theorem completeRead (h : KeepsQueues s t) : KeepsQueues s (completeRead t) := by
  unfold Machine.completeRead
  dsimp only
  refine .emptyRead (.assignRead ?_)
  split <;> exact h

theorem breakDetected (h : KeepsQueues s t) : KeepsQueues s (breakDetected t) := by
  have ha := h.abandonRead
  unfold Machine.breakDetected
  dsimp only
  split
  · exact .assignOldest ha
  · exact ha


theorem characterEnds {c : CodeSamples} (h : KeepsQueues s t) : KeepsQueues s (characterEnds c t) := by
  unfold Machine.characterEnds
  split
  · exact h
  · exact .breakDetected h
  · dsimp only
    refine .ite ?_ ?_ <;> exact .frameCharacter (.ite h h)

theorem codeCharacterEvent {p : CodePart} (h : KeepsQueues s t) : KeepsQueues s (codeCharacterEvent p t) := by
  unfold Machine.codeCharacterEvent
  refine .ite ?_ h
  split
  · exact h
  · exact .characterEnds h

theorem codeBreakEvent (h : KeepsQueues s t) : KeepsQueues s (codeBreakEvent t) := by
  unfold Machine.codeBreakEvent
  refine .ite h (.ite ?_ h)
  split
  · exact .breakDetected h
  · exact .ite (.breakDetected h) h

theorem codeBreakEndEvent (h : KeepsQueues s t) : KeepsQueues s (codeBreakEndEvent t) := by
  unfold Machine.codeBreakEndEvent
  split <;> exact h

theorem codeLineHighEvent (h : KeepsQueues s t) : KeepsQueues s (codeLineHighEvent t) := .ite h (.ite h h)

theorem idleTimerExpires (h : KeepsQueues s t) : KeepsQueues s (idleTimerExpires t) := by
  unfold Machine.idleTimerExpires
  dsimp only
  split
  · exact h
  · exact .completeRead h
  all_goals exact h

theorem idleTimerEvent (h : KeepsQueues s t) : KeepsQueues s (idleTimerEvent t) := by
  unfold Machine.idleTimerEvent
  split
  · exact .ite (.idleTimerExpires h) h
  · exact h

theorem triggerSentEvent {high : Bool} (h : KeepsQueues s t) : KeepsQueues s (triggerSentEvent high t) := by
  unfold Machine.triggerSentEvent
  split
  · exact .ite h h
  · exact h

theorem storeCodeEnable {on : Bool} (h : KeepsQueues s t) : KeepsQueues s (storeCodeEnable on t) :=
  .ite h (.ite h h.abandonRead.emptyRead)

theorem codeLineReset (h : KeepsQueues s t) : KeepsQueues s (codeLineReset t) := .ite (.abandonRead h) h

/-! ## Dose Regulator -/

theorem lagDecrement {v : Nat} (h : KeepsQueues s t) : KeepsQueues s (lagDecrement v t) := .ite h h

theorem doseChange {v : Nat} (h : KeepsQueues s t) : KeepsQueues s (doseChange v t) := .markStale h

theorem captureBase {v d : Nat} (h : KeepsQueues s t) : KeepsQueues s (captureBase v d t) := .ite h (.doseChange h)

theorem startTrimExchange {v : Nat} {x : Int} (h : KeepsQueues s t) : KeepsQueues s (startTrimExchange v x t) := by
  unfold Machine.startTrimExchange
  split <;> rename_i e <;> exact (h.appendUrgent e :)

theorem startLockout {v : Nat} (h : KeepsQueues s t) : KeepsQueues s (startLockout v t) := by
  unfold Machine.startLockout
  split <;> rename_i e <;> exact (h.appendUrgent e :)

theorem evaluateWindow {p : Product} {v : Nat} (h : KeepsQueues s t) : KeepsQueues s (evaluateWindow p v t) :=
  .ite h (.ite h (.startTrimExchange h))

theorem enterWeight {p : Product} {r : CanRecord} (h : KeepsQueues s t) : KeepsQueues s (enterWeight p r t) := by
  unfold Machine.enterWeight
  split
  · exact h
  · exact .ite (.evaluateWindow h) h

theorem gateHandOff {r : CanRecord} (h : KeepsQueues s t) : KeepsQueues s (gateHandOff r t) := by
  unfold Machine.gateHandOff
  refine .ite h ?_
  dsimp only
  split
  · exact h
  · exact .enterWeight (.ite (.startLockout h) h)

theorem ackRefused {v : Nat} (h : KeepsQueues s t) : KeepsQueues s (ackRefused v t) := .raise h

theorem ackAccepted {op : ExchangeOp} {v : Nat} (h : KeepsQueues s t) : KeepsQueues s (ackAccepted op v t) := by
  cases op
  · exact .doseChange h
  · exact .raise h
  · exact .doseChange h

theorem takeAck {k g v x : Byte} (h : KeepsQueues s t) : KeepsQueues s (takeAck k g v x t) := by
  unfold Machine.takeAck
  split
  · exact h
  · exact .ite h (.ite (.ite (.ite (.ackAccepted h) (.ackRefused h)) h) (.ite h h))

theorem exchangeTimeoutEvent {v : Nat} (h : KeepsQueues s t) : KeepsQueues s (exchangeTimeoutEvent v t) := by
  unfold Machine.exchangeTimeoutEvent
  split
  · exact .raise h
  · exact h

theorem productChange {p : Nat} (h : KeepsQueues s t) : KeepsQueues s (productChange p t) := by
  unfold Machine.productChange
  dsimp only
  exact .raise (.markAllStale (.withdraw (t := t) h rfl))

theorem selectProduct {c : BitVec 16} (h : KeepsQueues s t) : KeepsQueues s (selectProduct c t).2 := by
  unfold Machine.selectProduct
  split
  · exact h
  · split
    · exact h
    · exact .productChange h

theorem snoopedProduct {c : BitVec 16} (h : KeepsQueues s t) : KeepsQueues s (snoopedProduct c t) := by
  unfold Machine.snoopedProduct
  split
  · exact .raise h
  · exact .ite h (.productChange h)

theorem releaseValve {v : Nat} (h : KeepsQueues s t) : KeepsQueues s (releaseValve v t).2 := by
  unfold Machine.releaseValve
  split
  · exact h
  · split
    · exact h
    · split
      · exact h
      · split <;> rename_i e <;> exact (h.appendUrgent e :)

theorem clearValve {v : Nat} (h : KeepsQueues s t) : KeepsQueues s (clearValve v t).2 := by
  unfold Machine.clearValve
  split
  · exact h
  · split
    · exact h
    · exact .doseChange h

theorem storeValveCount {n : Nat} (h : KeepsQueues s t) : KeepsQueues s (storeValveCount n t) := .ite h h

theorem storeMode {v : Nat} {b : Byte} (h : KeepsQueues s t) : KeepsQueues s (storeMode v b t) := by
  unfold Machine.storeMode
  split <;> exact h

theorem doseLineReset (h : KeepsQueues s t) : KeepsQueues s (doseLineReset t) := .ite (.raise h) h

/-! ## Verdict Unit -/

theorem startPulse (h : KeepsQueues s t) : KeepsQueues s (startPulse t) := .ite h h

theorem rejectPulseEvent (h : KeepsQueues s t) : KeepsQueues s (rejectPulseEvent t) := by
  unfold Machine.rejectPulseEvent
  split <;> exact h

theorem gateDecision {n : Serial} (h : KeepsQueues s t) : KeepsQueues s (gateDecision n t) := by
  unfold Machine.gateDecision
  split
  · exact h
  · exact .ite (.gateHandOff (.ite (.startPulse (.writeRecord h)) (.writeRecord h)))
      (.ite (.startPulse (.writeRecord h)) (.writeRecord h))

theorem postCause {c : Cause} (h : KeepsQueues s t) : KeepsQueues s (postCause c t) := .ite (.raise h) h

theorem lostRunLoss (h : KeepsQueues s t) : KeepsQueues s (lostRunLoss t) := .ite (.postCause h) h

theorem confirmAt {e : Count} (h : KeepsQueues s t) : KeepsQueues s (confirmAt e t) := by
  unfold Machine.confirmAt
  split
  · exact h
  · split
    · exact .writeRecord h
    · exact h

theorem confirmCheck {n : Serial} (h : KeepsQueues s t) : KeepsQueues s (confirmCheck n t) := by
  unfold Machine.confirmCheck
  split
  · exact h
  · rename_i r _
    have hw : KeepsQueues s (if r.confirm.isNone = true
        then Machine.writeRecord n (fun r => { r with confirm := some .notSeen }) t else t) := .ite (.writeRecord h) h
    dsimp only
    split
    · exact .postCause hw
    · exact hw
    · exact hw
    · exact .raise hw

/-! ## Weighing Engine -/

theorem finishWindow {n : Serial} {q : Quality} {k : Nat} {x : Int} {b : Bool} (h : KeepsQueues s t) :
    KeepsQueues s (finishWindow n q k x b t) := .writeRecord (.ite h h)

theorem endWindowAtOnce (h : KeepsQueues s t) : KeepsQueues s (endWindowAtOnce t) := by
  unfold Machine.endWindowAtOnce
  split
  · exact h
  · exact .finishWindow h
  · exact .finishWindow h

theorem dropCapture (h : KeepsQueues s t) : KeepsQueues s (dropCapture t) := .ite h h

theorem engineArrival {n : Serial} (h : KeepsQueues s t) : KeepsQueues s (engineArrival n t) := by
  unfold Machine.engineArrival
  refine .ite (.appendReply (.dropCapture h)) ?_
  split
  · exact h
  · exact .endWindowAtOnce h

theorem engineUntracked (h : KeepsQueues s t) : KeepsQueues s (engineUntracked t) :=
  .ite (.appendReply (.dropCapture h)) (.endWindowAtOnce h)

theorem engineOpen (h : KeepsQueues s t) : KeepsQueues s (engineOpen t) := by
  unfold Machine.engineOpen
  split <;> exact h

theorem engineClose (h : KeepsQueues s t) : KeepsQueues s (engineClose t) := by
  unfold Machine.engineClose
  split
  · exact .finishWindow h
  · exact h

theorem engineAbandon (h : KeepsQueues s t) : KeepsQueues s (engineAbandon t) := by
  unfold Machine.engineAbandon
  split <;> exact h

theorem captureSample {x : Int} {a : CaptureAccumulator} (h : KeepsQueues s t) :
    KeepsQueues s (captureSample x a t) := .ite h (.appendReply h)

theorem evaluateRun {x : Int} (h : KeepsQueues s t) : KeepsQueues s (evaluateRun x t) := .ite h (.raise h)

theorem trackingSample {x : Int} (h : KeepsQueues s t) : KeepsQueues s (trackingSample x t) :=
  .ite h (.ite (.ite h (.evaluateRun h)) h)

theorem deliverSample {x : Int} {b : Bool} (h : KeepsQueues s t) : KeepsQueues s (deliverSample x b t) := by
  have hd : KeepsQueues s (if b then discardTracking t else t) := .ite h h
  unfold Machine.deliverSample
  dsimp only
  split
  · exact hd
  · refine .ite hd ?_
    split
    · exact .captureSample hd
    · exact .ite (.trackingSample hd) hd

theorem restartLossTimer {b : Bool} (h : KeepsQueues s t) : KeepsQueues s (restartLossTimer b t) := .ite (.raise h) h

theorem completeSampleFrame {w : BitVec 32} (h : KeepsQueues s t) : KeepsQueues s (completeSampleFrame w t) :=
  .deliverSample (.restartLossTimer (.ite h h))

theorem shortFrameEvent (h : KeepsQueues s t) : KeepsQueues s (shortFrameEvent t) := by
  rcases shortFrameEvent_cases t with ⟨-, e⟩ | ⟨-, e⟩ <;> rw [e] <;> exact h

theorem sampleClock {b : Bool} (h : KeepsQueues s t) : KeepsQueues s (sampleClock b t) := by
  rcases sampleClock_cases b t with ⟨-, e⟩ | ⟨bits, -, ⟨-, e⟩ | ⟨-, e⟩⟩ <;> rw [e]
  · exact h
  · exact h
  · exact .completeSampleFrame h

theorem sampleFrameEvent {p : SamplePart} (h : KeepsQueues s t) : KeepsQueues s (sampleFrameEvent p t) := by
  cases p
  case sync =>
    show KeepsQueues s (sampleSync t)
    unfold sampleSync
    split
    · exact h
    · exact .shortFrameEvent h
  case clk => exact .sampleClock h
  case frame w =>
    show KeepsQueues s (wholeSampleFrame w t)
    unfold wholeSampleFrame
    split
    · exact .completeSampleFrame h
    · exact .completeSampleFrame h
    · exact .completeSampleFrame (.shortFrameEvent h)

theorem faultOpenWindow (h : KeepsQueues s t) : KeepsQueues s (faultOpenWindow t) := by
  unfold Machine.faultOpenWindow
  split
  · exact .ite h h
  · exact h

theorem lossExpiry (h : KeepsQueues s t) : KeepsQueues s (lossExpiry t) :=
  .ite h (.raise (.faultOpenWindow h))

theorem sampleLossEvent (h : KeepsQueues s t) : KeepsQueues s (sampleLossEvent t) := by
  unfold Machine.sampleLossEvent
  split
  · exact .lossExpiry h
  · exact h

theorem storeSampleRate {r : Nat} (h : KeepsQueues s t) : KeepsQueues s (storeSampleRate r t) := by
  unfold Machine.storeSampleRate
  dsimp only
  split
  · exact .ite (.lossExpiry h) h
  · exact h

theorem weighingLineReset (h : KeepsQueues s t) : KeepsQueues s (weighingLineReset t) :=
  .dropCapture (.engineAbandon h)

/-! ## Tracking Unit -/

/-- A record joins the Tracking Queue while it has room (R60). -/
theorem joinQueue {r : CanRecord} (h : KeepsQueues s t) (hl : t.track.queue.length < 128) :
    KeepsQueues s (joinQueue r t) :=
  h.trans ⟨fun ⟨hf, hu, hr, _, hl', hc⟩ => ⟨hf, hu, hr, by simpa using hl, hl', hc⟩, id⟩

theorem admitRecord {v : Nat} (h : KeepsQueues s t) : KeepsQueues s (admitRecord v t) := by
  unfold Machine.admitRecord
  split
  · exact h.joinQueue ‹_›
  · exact .raise h

theorem trackDischarge {v : Nat} {b : Bool} (h : KeepsQueues s t) : KeepsQueues s (trackDischarge v b t) := by
  unfold Machine.trackDischarge
  split
  · exact h
  · exact .ite (.admitRecord h) h

theorem openOwner {o : WindowOwner} (h : KeepsQueues s t) : KeepsQueues s (openOwner o t) := .engineOpen h

theorem closeOwner (h : KeepsQueues s t) : KeepsQueues s (closeOwner t) := .engineClose h

theorem becomeOwner {n : Serial} {e : Count} (h : KeepsQueues s t) : KeepsQueues s (becomeOwner n e t) :=
  .ite (.openOwner (.engineArrival h)) (.engineArrival h)

theorem ownerPoints {n : Serial} (h : KeepsQueues s t) : KeepsQueues s (ownerPoints n t) := by
  unfold Machine.ownerPoints
  extract_lets u
  have hu : KeepsQueues s u := by
    unfold u
    split
    · exact .ite (.openOwner h) h
    · exact h
  split
  · exact .ite (.closeOwner hu) hu
  · exact hu

theorem matchedArrival {r : CanRecord} {e : Count} (h : KeepsQueues s t) : KeepsQueues s (matchedArrival r e t) := by
  have hw : KeepsQueues s (Machine.writeRecord r.serial (fun r => { r with eye := .arrived, arrival := some e }) t) :=
    .writeRecord h
  exact .becomeOwner (hw.trans
    ⟨fun ⟨hf, hu, hr, hk, hl, hc⟩ => ⟨hf, hu, hr, hk, length_learn _ _ hl, hc⟩, id⟩)

theorem strayArrival {e : Count} (h : KeepsQueues s t) (hl : t.track.queue.length < 128) :
    KeepsQueues s (strayArrival e t) := .becomeOwner (.raise (h.joinQueue hl))

theorem untrackedArrival (h : KeepsQueues s t) : KeepsQueues s (untrackedArrival t) :=
  .engineUntracked (.raise (.postCause h))

theorem trackArrival {e : Count} (h : KeepsQueues s t) : KeepsQueues s (trackArrival e t) := by
  unfold Machine.trackArrival
  split
  · exact h
  · split
    · exact .matchedArrival h
    · split
      · exact h.strayArrival ‹_›
      · exact .untrackedArrival h

theorem canReport {b : Bool} {r : CanRecord} (h : KeepsQueues s t) : KeepsQueues s (canReport b r t) := by
  unfold Machine.canReport
  refine .ite ?_ h
  split <;> rename_i e <;> have hu := h.appendRoutine e
  · exact hu
  · exact .raise hu

theorem takePoint {n : Serial} {p : PointsPassed → Bool} {m : PointsPassed → PointsPassed}
    {q : CanRecord → Option Count} {act : State → State} (h : KeepsQueues s t)
    (ha : ∀ {t}, KeepsQueues s t → KeepsQueues s (act t)) : KeepsQueues s (takePoint n p m q act t) := by
  unfold Machine.takePoint
  split
  · exact h
  · split
    · exact h
    · exact .ite (ha (.writeRecord h)) h

theorem removeRecord {n : Serial} (h : KeepsQueues s t) :
    KeepsQueues s { t with track.queue := removeRecord n t.track.queue } :=
  h.queue (removeRecord_sublist n _).length_le

theorem loseRecord {n : Serial} (h : KeepsQueues s t) : KeepsQueues s (loseRecord n t) := by
  unfold Machine.loseRecord
  split
  · exact h
  · exact .lostRunLoss (.canReport (.raise (h.removeRecord (n := n))))

theorem eyeClose {n : Serial} (h : KeepsQueues s t) : KeepsQueues s (eyeClose n t) := by
  unfold Machine.eyeClose
  split
  · exact h
  · exact .ite (.loseRecord h) h

theorem exitRecord {n : Serial} (h : KeepsQueues s t) : KeepsQueues s (exitRecord n t) := by
  have hc : KeepsQueues s (Machine.confirmCheck n t) := .confirmCheck h
  unfold Machine.exitRecord
  dsimp only
  split
  · exact hc
  · exact .canReport (hc.removeRecord (n := n))

theorem recordPoints {n : Serial} (h : KeepsQueues s t) : KeepsQueues s (recordPoints t n) := by
  unfold Machine.recordPoints
  extract_lets afterPrint afterTrigger afterReader afterEye afterOwner afterGate
  have hPrint : KeepsQueues s afterPrint := .takePoint h .printPoint
  have hTrigger : KeepsQueues s afterTrigger := .takePoint hPrint .triggerPoint
  have hReader : KeepsQueues s afterReader := .takePoint hTrigger .writeCode
  have hEye : KeepsQueues s afterEye := .takePoint hReader .eyeClose
  have hOwner : KeepsQueues s afterOwner := .ownerPoints hEye
  have hGate : KeepsQueues s afterGate := .takePoint hOwner .gateDecision
  exact .takePoint hGate .exitRecord

theorem positionEvent {d : Direction} (h : KeepsQueues s t) : KeepsQueues s (positionEvent d t) := by
  unfold Machine.positionEvent
  split
  · exact h.foldl fun h => .recordPoints h
  · exact h

theorem startLine (h : KeepsQueues s t) : KeepsQueues s (startLine t).2 := by
  unfold Machine.startLine
  split
  · exact h
  · split
    · exact h
    · exact .raise h

/-- The Tracking Queue is emptied. -/
theorem emptyQueue (h : KeepsQueues s t) : KeepsQueues s { t with track.queue := [] } := h.queue (Nat.zero_le _)

theorem stopLine (h : KeepsQueues s t) : KeepsQueues s (stopLine t) := by
  unfold Machine.stopLine
  split
  · exact h
  · exact .raise (emptyQueue (.engineAbandon h))

theorem trackingLineReset (h : KeepsQueues s t) : KeepsQueues s (trackingLineReset t) :=
  .ite (.raise (emptyQueue (.engineAbandon h))) (emptyQueue (.engineAbandon h))

/-! ## Input Unit -/

theorem homeEdge (h : KeepsQueues s t) : KeepsQueues s (homeEdge t) := by
  unfold Machine.homeEdge
  exact .ite h (.ite (.raise h) h)

theorem dischargeEdge (h : KeepsQueues s t) : KeepsQueues s (dischargeEdge t) :=
  .lagDecrement (.trackDischarge (.ite h h))

theorem deliverEdge {i : Input} {b : Bool} (h : KeepsQueues s t) : KeepsQueues s (deliverEdge i b t) := by
  unfold Machine.deliverEdge
  split
  · exact .dischargeEdge h
  · exact .homeEdge h
  · exact .trackArrival h
  · exact .confirmAt h
  · exact h

theorem acceptInput {i : Input} (h : KeepsQueues s t) : KeepsQueues s (acceptInput i t) := .deliverEdge h

theorem inputPinEvent {i : Input} {b : Bool} (h : KeepsQueues s t) : KeepsQueues s (inputPinEvent i b t) := by
  unfold Machine.inputPinEvent
  refine .ite h ?_
  dsimp only
  split
  · exact .ite (.acceptInput h) h
  · exact h

theorem holdTimerEvent {i : Input} {b : Bool} (h : KeepsQueues s t) : KeepsQueues s (holdTimerEvent i b t) := by
  unfold Machine.holdTimerEvent
  dsimp only
  split
  · exact .ite (.acceptInput h) h
  · exact h

theorem storeInputTime {i : Input} {n : Nat} (h : KeepsQueues s t) : KeepsQueues s (storeInputTime i n t) := by
  unfold Machine.storeInputTime
  dsimp only
  split
  · exact .ite (.acceptInput h) h
  · exact h

theorem countStep (h : KeepsQueues s t) : KeepsQueues s (countStep t).2 := by
  rw [countStep_frame]
  exact h

theorem deliverStep {d : Option Direction} (h : KeepsQueues s t) : KeepsQueues s (deliverStep d t) := by
  unfold Machine.deliverStep
  split
  · exact .positionEvent h
  · exact .raise h

theorem acceptPair (h : KeepsQueues s t) : KeepsQueues s (acceptPair t) := .deliverStep (.countStep h)

theorem encoderPinEvent {a b : Bool} (h : KeepsQueues s t) : KeepsQueues s (encoderPinEvent a b t) :=
  .ite h (.ite h (.ite (.acceptPair h) h))

theorem encoderStepEvent (h : KeepsQueues s t) : KeepsQueues s (encoderStepEvent t) := by
  unfold Machine.encoderStepEvent
  split
  · exact .acceptPair h
  · exact h

theorem arrivalEvent {b : Bool} (h : KeepsQueues s t) : KeepsQueues s (arrivalEvent b t) := by
  refine .ite ?_ (.holdTimerEvent h)
  unfold arrivalWithStep
  split
  · exact .ite (.deliverStep (.acceptInput (.countStep h))) h
  · exact h

theorem storeEncoderTime {n : Nat} (h : KeepsQueues s t) : KeepsQueues s (storeEncoderTime n t) := by
  unfold Machine.storeEncoderTime
  dsimp only
  split
  · exact .ite (.acceptPair h) h
  · exact h

theorem storeFilterTime {w : FilterInput} {n : Nat} (h : KeepsQueues s t) :
    KeepsQueues s (storeFilterTime w n t) := by
  cases w
  · exact .storeInputTime h
  · exact .storeEncoderTime h

/-! ## Line reset -/

theorem ringLineReset (h : KeepsQueues s t) : KeepsQueues s (ringLineReset t) :=
  h.trans ⟨fun ⟨_, _, _, hk, hl, hc⟩ => ⟨Nat.zero_le _, Nat.zero_le _, Nat.zero_le _, hk, hl, hc⟩,
    fun ⟨_, ht⟩ => ⟨by simp, ht⟩⟩

theorem inputLineReset (h : KeepsQueues s t) : KeepsQueues s (inputLineReset t) := h

theorem verdictLineReset (h : KeepsQueues s t) : KeepsQueues s (verdictLineReset t) := h

theorem noticeAfterReset {b : Bool} (h : KeepsQueues s t) : KeepsQueues s (noticeAfterReset b t) :=
  .ite (h.queueNotice (u := (Machine.queueNotice t).2) rfl) h

theorem lineReset {reply : State → State} (h : KeepsQueues s t)
    (hr : ∀ {t}, KeepsQueues s t → KeepsQueues s (reply t)) : KeepsQueues s (lineReset reply t) :=
  .inputLineReset (.codeLineReset (.verdictLineReset (.doseLineReset (.weighingLineReset (.trackingLineReset
    (.noticeAfterReset (hr (.ringLineReset h))))))))

/-! ## Management Unit -/

theorem takeRequest {src k : Byte} {perform : State → State} (h : KeepsQueues s t)
    (hp : ∀ {t}, KeepsQueues s t → KeepsQueues s (perform t)) : KeepsQueues s (takeRequest src k perform t) :=
  .ite h (.ite (hp h) (.ite (.appendReply h) h))

theorem unknownKindEvent {k : Byte} (h : KeepsQueues s t) : KeepsQueues s (unknownKindEvent k t) :=
  .ite h (.appendReply h)

theorem performIdentify {d : List Byte} (h : KeepsQueues s t) : KeepsQueues s (performIdentify d t) :=
  .ite (.appendReply h) (.appendReply h)

theorem performTableRead {d : List Byte} (h : KeepsQueues s t) : KeepsQueues s (performTableRead d t) :=
  .appendReply h

theorem writeTable {id : Nat} {refuse : List Entry → State → Option Refused} {store : List Entry → State → State}
    {first count : Byte} {d : List Byte} (h : KeepsQueues s t)
    (hs : ∀ {es t}, KeepsQueues s t → KeepsQueues s (store es t)) :
    KeepsQueues s (writeTable id refuse store first count d t) := by
  unfold Machine.writeTable
  dsimp only
  split
  · exact .appendReply h
  · refine .ite (.appendReply h) ?_
    split
    · exact .appendReply h
    · split
      · exact .appendReply h
      · exact .appendReply (hs h)

theorem storeEach {store : Entry → State → State} {es : List Entry} (h : KeepsQueues s t)
    (hs : ∀ {e t}, KeepsQueues s t → KeepsQueues s (store e t)) : KeepsQueues s (storeEach store es t) := h.foldl hs

theorem writeStations {a b : Byte} {d : List Byte} (h : KeepsQueues s t) : KeepsQueues s (writeStations a b d t) :=
  .writeTable h id

theorem storeDistances {es : List Entry} (h : KeepsQueues s t) : KeepsQueues s (storeDistances es t) := by
  refine h.trans ⟨fun ⟨hf, hu, hr, hk, hl, hc⟩ => ⟨hf, hu, hr, hk, ?_, hc⟩, id⟩
  unfold Machine.storeDistances
  dsimp only
  split
  · exact Nat.zero_le _
  · exact hl

theorem writeDistances {a b : Byte} {d : List Byte} (h : KeepsQueues s t) :
    KeepsQueues s (writeDistances a b d t) := .writeTable h .storeDistances

theorem writeRules {a b : Byte} {d : List Byte} (h : KeepsQueues s t) : KeepsQueues s (writeRules a b d t) :=
  .writeTable h (fun h => .storeEach h id)

theorem writeProducts {a b : Byte} {d : List Byte} (h : KeepsQueues s t) : KeepsQueues s (writeProducts a b d t) :=
  .writeTable h id

theorem writeModes {a b : Byte} {d : List Byte} (h : KeepsQueues s t) : KeepsQueues s (writeModes a b d t) :=
  .writeTable h (fun h => .storeEach h .storeMode)

theorem writeTestWeights {a b : Byte} {d : List Byte} (h : KeepsQueues s t) :
    KeepsQueues s (writeTestWeights a b d t) := .writeTable h id

theorem writeEvents {a b : Byte} {d : List Byte} (h : KeepsQueues s t) : KeepsQueues s (writeEvents a b d t) :=
  .writeTable h id

theorem storeSetting {e : Entry} (h : KeepsQueues s t) : KeepsQueues s (storeSetting e t) := by
  unfold Machine.storeSetting
  dsimp only
  split
  case h_1 => exact .storeValveCount h
  case h_8 => exact .storeSampleRate h
  case h_17 => exact .storeCodeEnable h
  case h_2 | h_3 | h_4 | h_5 | h_6 | h_7 => exact .storeFilterTime h
  all_goals exact h

theorem writeSettings {a b : Byte} {d : List Byte} (h : KeepsQueues s t) : KeepsQueues s (writeSettings a b d t) :=
  .writeTable h (fun h => .storeEach h .storeSetting)

theorem writeSetting {i : Nat} {e : BitVec 64} (h : KeepsQueues s t) : KeepsQueues s (writeSetting i e t) :=
  .writeSettings h

theorem performTableWrite {d : List Byte} (h : KeepsQueues s t) : KeepsQueues s (performTableWrite d t) := by
  unfold Machine.performTableWrite
  split
  · split
    · exact .writeStations h
    · exact .writeSettings h
    · exact .writeDistances h
    · exact .writeRules h
    · exact .writeProducts h
    · exact .writeModes h
    · exact .writeTestWeights h
    · exact .writeEvents h
    · exact .appendReply h
  · exact .appendReply h

theorem actStart (h : KeepsQueues s t) : KeepsQueues s (actStart t) := .appendReply (.startLine h)

theorem actStop (h : KeepsQueues s t) : KeepsQueues s (actStop t) := .appendReply (.stopLine h)

theorem actLineReset (h : KeepsQueues s t) : KeepsQueues s (actLineReset t) := .lineReset h .appendReply

theorem actSelectProduct {c : BitVec 16} (h : KeepsQueues s t) : KeepsQueues s (actSelectProduct c t) :=
  .appendReply (.selectProduct h)

theorem actZero (h : KeepsQueues s t) : KeepsQueues s (actZero t) := by
  unfold Machine.actZero
  split
  · exact .appendReply h
  · exact h

theorem actClearStop (h : KeepsQueues s t) : KeepsQueues s (actClearStop t) := .appendReply h

theorem actClearEvents {x : BitVec 32} (h : KeepsQueues s t) : KeepsQueues s (actClearEvents x t) := .appendReply h

theorem actValveRelease {v : Byte} (h : KeepsQueues s t) : KeepsQueues s (actValveRelease v t) :=
  .appendReply (.releaseValve h)

theorem actValveClear {v : Byte} (h : KeepsQueues s t) : KeepsQueues s (actValveClear v t) :=
  .appendReply (.clearValve h)

theorem actTestOn (h : KeepsQueues s t) : KeepsQueues s (actTestOn t) := by
  refine .appendReply ?_
  unfold testModeOn
  split
  · exact h
  · split
    · exact h
    · split <;> exact h

theorem actTestOff (h : KeepsQueues s t) : KeepsQueues s (actTestOff t) := .appendReply h

theorem actClearCounters (h : KeepsQueues s t) : KeepsQueues s (actClearCounters t) := .appendReply h

theorem actStopRequest (h : KeepsQueues s t) : KeepsQueues s (actStopRequest t) := .appendReply (.postCause h)

theorem performCode {c : Byte} {d : List Byte} (h : KeepsQueues s t) : KeepsQueues s (performCode c d t) := by
  unfold Machine.performCode
  split
  · exact .actStart h
  · exact .actStop h
  · exact .actLineReset h
  · exact .actSelectProduct h
  · exact .actZero h
  · exact .actClearStop h
  · exact .actClearEvents h
  · exact .actValveRelease h
  · exact .actValveClear h
  · exact .actTestOn h
  · exact .actTestOff h
  · exact .actClearCounters h
  · exact .actStopRequest h

theorem performAction {d : List Byte} (h : KeepsQueues s t) : KeepsQueues s (performAction d t) := by
  unfold Machine.performAction
  split
  · exact .appendReply h
  · split
    · exact .appendReply h
    · exact .ite (.performCode h) (.appendReply h)

theorem manageFrame {src k : Byte} {d : List Byte} (h : KeepsQueues s t) : KeepsQueues s (manageFrame src k d t) :=
  .ite (.takeRequest h .performTableRead) (.ite (.takeRequest h .performTableWrite)
    (.ite (.takeRequest h .performAction) (.takeRequest h .performIdentify)))

/-! ## Pass Stage -/

theorem ringFault {f : RingFault} (h : KeepsQueues s t) : KeepsQueues s (ringFault f t) := .raise h

/-- A frame whose check verifies may be sent on (R17). -/
theorem sendOn {f : List Byte} (h : KeepsQueues s t) (hv : checkVerifies f = true) : KeepsQueues s (sendOn f t) := by
  rcases Nat.lt_or_ge t.ring.forward.length 4 with hl | hl
  · rw [sendOn_room hl]
    refine h.trans ⟨fun ⟨_, hu, hr, hk, hl', hc⟩ => ⟨by simpa using hl, hu, hr, hk, hl', hc⟩, fun ⟨hf, ht⟩ => ⟨?_, ht⟩⟩
    simpa [or_imp, forall_and] using ⟨hf, hv⟩
  · rw [sendOn_full hl]
    exact .ringFault h

theorem addressedFrame {f : List Byte} (h : KeepsQueues s t) : KeepsQueues s (addressedFrame f t) :=
  .ite (.ite (.takeAck h) h) (.ite (.manageFrame h) (.ite (.unknownKindEvent h) h))

theorem snoopCopy {f : List Byte} (h : KeepsQueues s t) : KeepsQueues s (snoopCopy f t) :=
  .ite (.ite (.snoopedProduct h) h) h

theorem rewritePair {p : List Byte} (h : KeepsQueues s t) : KeepsQueues s (rewritePair p t).2 := by
  unfold Machine.rewritePair
  dsimp only
  split
  · exact .captureBase h
  · exact h

theorem rewritePairs {ps : List (List Byte)} (h : KeepsQueues s t) : KeepsQueues s (rewritePairs ps t).2 := by
  induction ps generalizing t with
  | nil => exact h
  | cons p ps ih => exact ih (.rewritePair h)

theorem trimDecision {f : List Byte} (h : KeepsQueues s t) (hv : checkVerifies f = true)
    (hl : f.length = 6 + frameLength f) : KeepsQueues s (trimDecision f t) := by
  unfold Machine.trimDecision
  refine .ite (.sendOn h hv) ?_
  split
  · have hr : KeepsQueues s (rewriteFrame f t).2 := h.rewritePairs
    have hg := checkVerifies_rewriteFrame t hl ‹_›
    generalize rewriteFrame f t = r at hr hg ⊢
    exact .sendOn hr hg
  · exact .sendOn h hv

/-- A good frame of the length its length byte gives, handed to the Pass Stage (R27 to R37). -/
theorem passFrame {f : List Byte} (h : KeepsQueues s t) (hv : checkVerifies f = true)
    (hl : f.length = 6 + frameLength f) : KeepsQueues s (passFrame f t) := by
  unfold Machine.passFrame
  refine .ite (.sendOn h hv) (.ite h (.ite (.addressedFrame h) ?_))
  split
  · exact .sendOn h hv
  · exact .sendOn h hv
  · exact h
  · exact .sendOn (.snoopCopy h) hv
  · exact .trimDecision h hv hl

/-! ## Ring Port -/

theorem completeFrame {f : List Byte} {b : Bool} (h : KeepsQueues s t) (hl : frameIsComplete f = true) :
    KeepsQueues s (completeFrame f b t) := by
  unfold Machine.completeFrame
  dsimp only
  split
  · exact .passFrame (.ite h h) ‹_› (beq_iff_eq.mp hl)
  · exact .ringFault h

theorem extendFrame {f : List Byte} {b : Bool} (h : KeepsQueues s t) : KeepsQueues s (extendFrame f b t) := by
  unfold Machine.extendFrame
  refine .ite (.ringFault h) ?_
  split
  · exact .completeFrame h ‹_›
  · exact h

theorem assemble {d : Byte} {mark sound noisy : Bool} (h : KeepsQueues s t) :
    KeepsQueues s (assemble d mark sound noisy t) := by
  unfold Machine.assemble
  split
  · exact .ite h h
  · exact .ite (.ringFault h) (.ite (ringFault (f := .truncated) h) (.extendFrame h))
  · exact .ite h h

theorem falseStart (h : KeepsQueues s t) : KeepsQueues s (falseStart t) := by
  unfold Machine.falseStart
  dsimp only
  split <;> exact h

/-- The transmitter may change to anything but a forwarded frame in SENDING. -/
theorem transmitter {tx : Transmitter} (h : KeepsQueues s t)
    (htx : ∀ bytes since, tx ≠ .sending bytes false since) : KeepsQueues s { t with ring.tx := tx } :=
  h.trans ⟨id, fun ⟨hf, _⟩ => ⟨hf, fun bytes since e => absurd e (htx bytes since)⟩⟩

theorem requestRelay (h : KeepsQueues s t) : KeepsQueues s (requestRelay t) := by
  unfold Machine.requestRelay
  split
  · exact h.transmitter (by simp)
  · split <;> exact h

/-- The Forward Queue may be emptied (R5). -/
theorem emptyForward (h : KeepsQueues s t) : KeepsQueues s { t with ring.forward := [] } :=
  h.trans ⟨fun ⟨_, hu, hr, hk, hl, hc⟩ => ⟨Nat.zero_le _, hu, hr, hk, hl, hc⟩, fun ⟨_, ht⟩ => ⟨by simp, ht⟩⟩

theorem ringBreakDetected (h : KeepsQueues s t) : KeepsQueues s (ringBreakDetected t) :=
  .requestRelay (.ite (.ringFault (id h.emptyForward)) (id h.emptyForward))

theorem ringBreakEvent (h : KeepsQueues s t) : KeepsQueues s (ringBreakEvent t) := .ite h (.ringBreakDetected h)

theorem ringCharacterEvent {c : RingSamples} (h : KeepsQueues s t) : KeepsQueues s (ringCharacterEvent c t) := by
  unfold Machine.ringCharacterEvent
  refine .ite h ?_
  split
  · exact .falseStart h
  · exact .ringBreakDetected h
  · exact .assemble h

theorem falseStartEvent (h : KeepsQueues s t) : KeepsQueues s (falseStartEvent t) := .ite h (.falseStart h)

theorem frameCompleteEvent {d : Byte} {b : Bool} (h : KeepsQueues s t) :
    KeepsQueues s (frameCompleteEvent d b t) := by
  unfold Machine.frameCompleteEvent
  split
  · split
    · exact .completeFrame h ‹_›
    · exact h
  all_goals exact h

theorem breakEnds {start len : Nat} (h : KeepsQueues s t) : KeepsQueues s (breakEnds start len t) := by
  unfold Machine.breakEnds recordBreak
  split
  · exact h.transmitter (by simp)
  · exact h

theorem resyncEvent {len : Nat} (h : KeepsQueues s t) : KeepsQueues s (resyncEvent len t) := by
  unfold Machine.resyncEvent
  split
  · exact .ite (.breakEnds h) h
  · exact h

theorem longBreakEvent (h : KeepsQueues s t) : KeepsQueues s (longBreakEvent t) := by
  unfold Machine.longBreakEvent
  split
  · exact .lineReset h id
  · exact h

theorem longBreakEndEvent {len : Nat} (h : KeepsQueues s t) : KeepsQueues s (longBreakEndEvent len t) := by
  unfold Machine.longBreakEndEvent
  split
  · exact .breakEnds h
  · exact h

theorem interCharacterEvent {low : Ticks} (h : KeepsQueues s t) : KeepsQueues s (interCharacterEvent low t) := by
  unfold Machine.interCharacterEvent
  refine .ite h ?_
  dsimp only
  split
  · exact .ringFault h
  · exact h
  · exact h

theorem gapEvent (h : KeepsQueues s t) : KeepsQueues s (gapEvent t) := by
  unfold Machine.gapEvent
  split
  · exact h.transmitter (by simp)
  · exact h

theorem frameSentEvent (h : KeepsQueues s t) : KeepsQueues s (frameSentEvent t) := by
  unfold Machine.frameSentEvent
  split
  · exact .ite (h.transmitter (by simp)) (h.transmitter (by simp))
  · exact h

theorem relayEndEvent (h : KeepsQueues s t) : KeepsQueues s (relayEndEvent t) := by
  unfold Machine.relayEndEvent
  split
  · exact .ite h (h.transmitter (by simp))
  · exact h

theorem noticeRetryEvent (h : KeepsQueues s t) : KeepsQueues s (noticeRetryEvent t) := by
  unfold Machine.noticeRetryEvent
  refine .ite ?_ h
  split <;> rename_i e <;> exact (h.queueNotice e :)

/-- The arbiter takes from the queues, and forwards only the head of the Forward Queue (R22). -/
theorem arbitrate (h : KeepsQueues s t) : KeepsQueues s (arbitrate t) := by
  refine h.trans ⟨fun ⟨hf, hu, hr, hk, hl, hc⟩ => ?_, fun ⟨hf, ht⟩ => ⟨?_, ?_⟩⟩
  · obtain ⟨sf, su, sr⟩ := arbitrate_suffix t
    exact ⟨sf.length_le.trans hf, su.length_le.trans hu, sr.length_le.trans hr, by simpa using hk, by simpa using hl,
      by simpa using hc⟩
  · exact fun f hm => hf f ((arbitrate_suffix t).1.subset hm)
  · exact fun bytes since e => (arbitrate_forwards e).elim (ht bytes since) (hf bytes)

/-! ## Every command -/

/-- The frame around an event keeps what the event keeps. -/
theorem event {f : State → State} (hf : ∀ {t}, KeepsQueues s t → KeepsQueues s (f t)) (e : event f s = .next t) :
    KeepsQueues s t := by
  unfold Machine.event at e
  split at e <;> cases e
  · exact .refl s
  · exact .arbitrate (hf (.refl s))

/-- A request keeps what its performance keeps. -/
theorem request {src k : Byte} {perform : State → State} (hp : ∀ {t}, KeepsQueues s t → KeepsQueues s (perform t))
    (e : Machine.event (Machine.takeRequest src k perform) s = .next t) : KeepsQueues s t :=
  event (fun h => .takeRequest h hp) e

theorem afterReset (p : Pins) (q : List Instr) : KeepsQueues s (State.afterReset p q) :=
  ⟨fun _ => ⟨Nat.zero_le _, Nat.zero_le _, Nat.zero_le _, Nat.zero_le _, Nat.zero_le _, Nat.zero_le _⟩,
    fun _ => ⟨fun _ hf => (List.not_mem_nil hf).elim, fun _ _ e => by cases e⟩⟩

theorem resetAsserted (e : execResetAsserted s = .next t) : KeepsQueues s t := by
  unfold execResetAsserted at e
  split at e <;> cases e
  · exact .refl s
  · exact (KeepsQueues.refl s).transmitter (tx := .gap s.now) (by simp)

/-- Every command keeps the capacities and the checks of the forwarded frames. -/
theorem exec (c : Instr) (e : exec c s = .next t) : KeepsQueues s t := by
  cases c with
  | hardReset p => cases e; exact .afterReset p _
  | resetAsserted => exact .resetAsserted e
  | ringCharacter => exact event .ringCharacterEvent e
  | frameComplete => exact event .frameCompleteEvent e
  | interCharacterTimeout => exact event .interCharacterEvent e
  | ringBreak => exact event .ringBreakEvent e
  | resync => exact event .resyncEvent e
  | longBreak => exact event .longBreakEvent e
  | longBreakEnd => exact event .longBreakEndEvent e
  | gap => exact event .gapEvent e
  | frameSent => exact event .frameSentEvent e
  | relayEnd => exact event .relayEndEvent e
  | noticeRetry => exact event .noticeRetryEvent e
  | ringFalseStart => exact event .falseStartEvent e
  | inputPinChange => exact event .inputPinEvent e
  | discharge | homeEdge | confirmEvent | pocketChange | acceptedFallingEdge => exact event .holdTimerEvent e
  | arrival => exact event .arrivalEvent e
  | encoderPinChange => exact event .encoderPinEvent e
  | encoderStep => exact event .encoderStepEvent e
  | sampleFrame => exact event .sampleFrameEvent e
  | shortFrame => exact event .shortFrameEvent e
  | sampleLoss => exact event .sampleLossEvent e
  | codeCharacter => exact event .codeCharacterEvent e
  | codeBreak => exact event .codeBreakEvent e
  | codeBreakEnd => exact event .codeBreakEndEvent e
  | codeLineHigh => exact event .codeLineHighEvent e
  | idleTimerExpiry => exact event .idleTimerEvent e
  | triggerSent => exact event .triggerSentEvent e
  | exchangeTimeout => exact event (fun h => .ite (.exchangeTimeoutEvent h) h) e
  | rejectPulseExpiry => exact event .rejectPulseEvent e
  | fillAck => exact event (fun h => .ite h (.takeAck h)) e
  | unknownKindRequest => exact event .unknownKindEvent e
  | identify => exact request .performIdentify e
  | tableRead => exact request .performTableRead e
  | stationsWrite => exact request .writeStations e
  | distancesWrite => exact request .writeDistances e
  | passRulesWrite => exact request .writeRules e
  | productsWrite => exact request .writeProducts e
  | valveModeWrite => exact request .writeModes e
  | testWeightsWrite => exact request .writeTestWeights e
  | eventsWrite => exact request .writeEvents e
  | settingsWrite => exact request .writeSettings e
  | valveCountWrite | filterTimeWrite | sampleRateWrite | weighingSettingsWrite | calibrationFactorWrite
  | lotStringWrite | codePortConfigWrite | codePortEnable => exact request .writeSetting e
  | start => exact request .actStart e
  | stop => exact request .actStop e
  | lineResetAction => exact request .actLineReset e
  | selectProduct => exact request .actSelectProduct e
  | zero => exact request .actZero e
  | clearStop => exact request .actClearStop e
  | clearEvents => exact request .actClearEvents e
  | valveRelease => exact request .actValveRelease e
  | valveClear => exact request .actValveClear e
  | testOn => exact request .actTestOn e
  | testOff => exact request .actTestOff e
  | clearCounters => exact request .actClearCounters e
  | stopRequest => exact request .actStopRequest e
  | badTableWrite => exact request .performTableWrite e
  | unknownActionCode => exact request .performAction e

/-- Every step keeps the capacities and the checks of the forwarded frames. -/
theorem step (e : step s = .next t) : KeepsQueues s t := by
  unfold Machine.step at e
  split at e
  · rename_i c rest _
    have h : KeepsQueues { s with pending := rest } t := exec c e
    exact h
  · cases e
    exact .refl s

end KeepsQueues

/-- Settles O56: every step keeps the capacities of the queues. -/
theorem capacitiesHold : Obligations.CapacitiesHold :=
  fun _ _ hs e => (KeepsQueues.step e).1 hs

/-- Settles O60: only a frame whose check verified, or a rewritten DOSE SET with its check built anew, joins the Forward
Queue, and only the head of that queue is forwarded. -/
theorem forwardedFramesVerify : Obligations.ForwardedFramesVerify :=
  fun _ _ hs e => (KeepsQueues.step e).2 hs

end Sys2Proof.Machine
end

section
/-! PROOFS. The check register and the frames that carry it (R10, R23, R37): O6 and O7. -/

namespace Sys2Proof.Machine

/-! ## The check register -/

/-- A byte more takes its eight bits, lowest first (R10). -/
theorem checkOf_append_singleton (bs : List Byte) (b : Byte) : checkOf (bs ++ [b]) = checkByte (checkOf bs) b := by
  simp [checkOf]

/-- The two bytes of a 16-bit field, low byte first. -/
theorem leBytes_two (r : BitVec 16) : leBytes 2 r.toNat = [r.extractLsb' 0 8, r.extractLsb' 8 8] := by
  have hlow : BitVec.ofNat 8 r.toNat = r.extractLsb' 0 8 := by
    apply BitVec.eq_of_toNat_eq
    simp
  have hhigh : BitVec.ofNat 8 (r.toNat / 256) = r.extractLsb' 8 8 := by
    apply BitVec.eq_of_toNat_eq
    simp [Nat.shiftRight_eq_div_pow]
  simp [leBytes, hlow, hhigh]

/-- The check over a run of bytes and their check leaves 0 (R10). -/
theorem checkOf_withCheck (bs : List Byte) : checkOf (withCheck bs) = 0 := by
  have hhigh : (checkOf bs).toNat / 256 = ((checkOf bs) >>> 8).toNat := by
    rw [BitVec.toNat_ushiftRight, Nat.shiftRight_eq_div_pow]
  have hend : (checkOf bs) >>> 8 >>> 8 = 0 := by
    apply BitVec.eq_of_toNat_eq
    have := (checkOf bs).isLt
    simp only [BitVec.toNat_ushiftRight, Nat.shiftRight_eq_div_pow]
    show (checkOf bs).toNat / 2 ^ 8 / 2 ^ 8 = 0
    omega
  calc checkOf (withCheck bs)
      = checkByte (checkByte (checkOf bs) (BitVec.ofNat 8 (checkOf bs).toNat))
          (BitVec.ofNat 8 ((checkOf bs).toNat / 256)) := by simp [withCheck, leBytes, checkOf]
    _ = (checkOf bs) >>> 8 >>> 8 := by rw [checkByte_own, hhigh, checkByte_own]
    _ = 0 := hend

/-- A header with the length of its payload, at most 56, is as long as its length byte says (R14). -/
theorem length_header_payload (dest source kind : Byte) {payload : List Byte} (h : payload.length ≤ 56) :
    ([dest, source, kind, BitVec.ofNat 8 payload.length] ++ payload).length
      = 4 + frameLength ([dest, source, kind, BitVec.ofNat 8 payload.length] ++ payload) := by
  have hb : (BitVec.ofNat 8 payload.length).toNat = payload.length := by
    rw [BitVec.toNat_ofNat]
    omega
  simp only [frameLength, byteAt, List.cons_append, List.nil_append, List.getD_cons_succ, List.getD_cons_zero, hb,
    List.length_cons]
  omega

theorem checkVerifies_buildFrame (dest source kind : Byte) {payload : List Byte} (h : payload.length ≤ 56) :
    checkVerifies (buildFrame dest source kind payload) = true :=
  checkVerifies_withCheck _ (length_header_payload dest source kind h)

/-- Settles O6. -/
theorem checkFollowsGenerator : Obligations.CheckFollowsGenerator :=
  ⟨rfl, checkOf_append_singleton, fun _ _ => rfl, fun bs => congrArg (bs ++ ·) (leBytes_two (checkOf bs)),
    fun _ _ _ => rfl, fun _ _ => ⟨_, rfl⟩⟩

/-! ## The rewritten frame -/

section
variable {f : List Byte} (s : State) (h : f.length = 6 + frameLength f)
  (hw : doseSetWellFormed (framePayload f) = true)
include h hw

theorem length_rewriteFrame : (rewriteFrame f s).1.length = f.length := by
  rw [rewriteFrame_eq s h hw, withCheck, List.length_append, length_rewrittenBody s h hw, length_leBytes, h]
  omega

/-- The header, the tag and the count stay as received (R36). -/
theorem take_rewriteFrame : (rewriteFrame f s).1.take 6 = f.take 6 := by
  have h6 : (f.take 6).length = 6 := by simp; omega
  rw [rewriteFrame_eq s h hw, withCheck, List.append_assoc, List.take_left' h6]

/-- The valve bytes stay as received (R36). -/
theorem byteAt_rewriteFrame {i : Nat} (hi : i < (byteAt f 5).toNat) :
    byteAt (rewriteFrame f s).1 (6 + 3 * i) = byteAt f (6 + 3 * i) := by
  have hL := frameLength_of_doseSet h hw
  have h6 : (f.take 6).length = 6 := by simp; omega
  have hn : i < (byteAt (framePayload f) 1).toNat := by rwa [byteAt_framePayload (by omega)]
  have hp : 3 * i < (rewrittenPairs f s).length := by rw [length_rewrittenPairs s h hw]; omega
  calc byteAt (rewriteFrame f s).1 (6 + 3 * i)
      = byteAt (f.take 6 ++ rewrittenPairs f s) (6 + 3 * i) := by
        rw [rewriteFrame_eq s h hw, withCheck, byteAt_append_left _ (by simp only [List.length_append]; omega)]
    _ = byteAt (rewrittenPairs f s) (3 * i) := by
        have := byteAt_append_right (a := f.take 6) (rewrittenPairs f s) (3 * i)
        rwa [h6] at this
    _ = byteAt f (6 + 3 * i) := byteAt_rewrittenPairs s h hw hn

end

/-- Settles O7: a built frame by its length byte, a rewritten one by what the rewriting of its pairs keeps. -/
theorem builtAndRewrittenFramesVerify : Obligations.BuiltAndRewrittenFramesVerify :=
  ⟨fun dest source kind _ h => ⟨checkVerifies_buildFrame dest source kind h, checkOf_withCheck _⟩,
    fun s _ h hw => ⟨length_rewriteFrame s h hw, take_rewriteFrame s h hw, checkVerifies_rewriteFrame s h hw,
      fun _ hi => byteAt_rewriteFrame s h hw hi⟩⟩

end Sys2Proof.Machine
end

section
/-! PROOFS. The RESET pin and the state at reset (R25): O3, O4 and O54. -/

namespace Sys2Proof.Machine

/-! ## RESET low -/

theorem rejectOn_resetLow {s : State} (h : s.resetLow = true) : s.rejectOn = false := by simp [State.rejectOn, h]

theorem stopOn_resetLow {s : State} (h : s.resetLow = true) : s.stopOn = false := by simp [State.stopOn, h]

/-- While RESET is low nothing but HARD_RESET has an effect (R25, log 7). -/
theorem exec_resetLow {s : State} (h : s.resetLow = true) {c : Instr} (hc : ∀ p, c ≠ .hardReset p) :
    exec c s = .next s := by
  rcases exec_eq_event c with ⟨p, hp⟩ | rfl | ⟨f, hf⟩
  · exact absurd hp (hc p)
  · exact if_pos h
  · rw [hf, event_asleep h]

/-- Settles O3. -/
theorem resetLowHoldsEverything : Obligations.ResetLowHoldsEverything :=
  ⟨fun _ h => ⟨_, if_neg (by simp [h]), rfl, rejectOn_resetLow rfl, stopOn_resetLow rfl⟩,
    fun _ h => ⟨rejectOn_resetLow h, stopOn_resetLow h, fun _ hc => exec_resetLow h hc⟩⟩

/-! ## The state at the end of a hard reset -/

theorem product_afterReset (p : Pins) (q : List Instr) (i : Nat) :
    (State.afterReset p q).product i = Product.empty := by
  simp only [State.product, State.afterReset, DoseRegulator.reset, List.getD_eq_getElem?_getD,
    List.getElem?_replicate]
  split <;> rfl

theorem valve_afterReset (p : Pins) (q : List Instr) (v : Nat) : (State.afterReset p q).valve v = {} := by
  simp only [State.valve, State.afterReset, DoseRegulator.reset, List.getD_eq_getElem?_getD, List.getElem?_replicate]
  split <;> rfl

/-- Every entry of COUNTERS but the two markers reads 0 (log 23). -/
theorem counter_afterReset (p : Pins) (q : List Instr) {i : Nat} (hi : i < 151) (h93 : i ≠ 93) (h110 : i ≠ 110) :
    (counterList (State.afterReset p q)).getD i 0 = 0 := by
  rw [counterList_afterReset]
  have hall : ∀ i < 151, i ≠ 93 → i ≠ 110 →
      (List.replicate 93 0 ++ 0xFFFFFFFF :: List.replicate 16 0 ++ 0xFFFFFFFF :: List.replicate 40 0
        : List Counter).getD i 0 = 0 := by decide +kernel
  exact hall i hi h93 h110

/-- Settles O4: each field has its reset value by the definition of State.afterReset. -/
theorem hardResetRestoresEverything : Obligations.HardResetRestoresEverything := by
  intro p s
  exact ⟨State.afterReset p s.pending,
    rfl, rfl, rfl, rfl, rfl, rfl, rfl, rfl, rfl, rfl, rfl, rfl, rfl, rfl, rfl, rfl, rfl, rfl, rfl, rfl, rfl, rfl,
    rfl, rfl, rfl, rfl, rfl, rfl, rfl, rfl, rfl, rfl, rfl, rfl, rfl, rfl, rfl, rfl, rfl, rfl, rfl, rfl, rfl, rfl,
    rfl, rfl, rfl, rfl, rfl, rfl, rfl, rfl, rfl, rfl, rfl, rfl, rfl, rfl, rfl, fun i _ => product_afterReset p _ i,
    rfl, rfl, fun v _ _ => valve_afterReset p _ v, rfl, rfl, rfl, rfl, rfl, rfl, rfl, rfl, rfl, rfl, rfl, rfl, rfl,
    fun _ h h93 h110 => counter_afterReset p _ h h93 h110⟩

/-! ## The invariants at reset -/

theorem exchangesTimed_reset : ExchangesTimed State.reset := by
  refine ⟨rfl, Nat.zero_le _, fun v _ _ => ?_⟩
  rw [State.reset, valve_afterReset]
  exact ⟨rfl, rfl, fun _ => rfl⟩

/-- Settles O54. -/
theorem invariantsHoldAtReset : Obligations.InvariantsHoldAtReset :=
  ⟨by decide, by decide, by decide, by decide, exchangesTimed_reset, ⟨by decide, by decide⟩,
    ⟨fun _ hf => (List.not_mem_nil hf).elim, fun _ _ e => by cases e⟩⟩

end Sys2Proof.Machine
end

section
/-! PROOFS. What comes in on Ring In: characters, frames, timeouts, false starts and breaks (R2 to R16): O8 to O11. -/

namespace Sys2Proof.Machine

/-! ## What the receiver makes of a character -/

theorem ringCharacterEvent_inBreak {c : RingSamples} {s : State} (h : s.ring.receiver.isInBreak = true) :
    ringCharacterEvent c s = s := if_pos h

theorem ringCharacterEvent_falseStart {c : RingSamples} {s : State} (h : s.ring.receiver.isInBreak = false)
    (hc : receiveRing c = .falseStart) : ringCharacterEvent c s = falseStart s := by
  simp [ringCharacterEvent, h, hc]

theorem ringCharacterEvent_lineBreak {c : RingSamples} {s : State} (h : s.ring.receiver.isInBreak = false)
    (hc : receiveRing c = .lineBreak) : ringCharacterEvent c s = ringBreakDetected s := by
  simp [ringCharacterEvent, h, hc]

theorem ringCharacterEvent_character {c : RingSamples} {s : State} {data : Byte} {mark sound noisy : Bool}
    (h : s.ring.receiver.isInBreak = false) (hc : receiveRing c = .character data mark sound noisy) :
    ringCharacterEvent c s = assemble data mark sound noisy
      { s with ring.receiver := if !sound && c.lowAtEnd then .waitHigh else .waitEdge } := by
  simp [ringCharacterEvent, h, hc]

theorem falseStartEvent_eq {s : State} (h : s.ring.receiver.isInBreak = false) : falseStartEvent s = falseStart s := by
  simp [falseStartEvent, h]

theorem ringBreakEvent_eq {s : State} (h : s.ring.receiver.isInBreak = false) :
    ringBreakEvent s = ringBreakDetected s := by simp [ringBreakEvent, h]

/-! ## The assembler (Table 1-3) -/

section
variable {data : Byte} {noisy : Bool} {s : State}

theorem assemble_waitMark_mark (h : s.ring.assembler = .waitMark) :
    assemble data true true noisy s = startFrame data noisy s := by simp [assemble, h]

theorem assemble_waitMark_stray {mark sound : Bool} (h : s.ring.assembler = .waitMark)
    (hc : (sound && mark) = false) : assemble data mark sound noisy s =
      { s with ring.counters.strays := s.ring.counters.strays + 1 } := by simp [assemble, h, hc]

variable {chars : List Byte} {flag : Bool} {since : Ticks}

theorem assemble_receiving_unsound {mark : Bool} (h : s.ring.assembler = .receiving chars flag since) :
    assemble data mark false noisy s = ringFault .framing { s with ring.assembler := .discard s.now } := by
  simp [assemble, h]

theorem assemble_receiving_mark (h : s.ring.assembler = .receiving chars flag since) :
    assemble data true true noisy s
      = startFrame data noisy (ringFault .truncated { s with ring.assembler := .waitMark }) := by
  simp [assemble, h]

theorem startFrame_ringFault {f : RingFault} : startFrame data noisy (ringFault f s) =
    { ringFault f s with ring.assembler := .receiving [data] noisy s.now } := by
  have hnow : (ringFault f s).now = s.now := raise_now _ _
  rw [← hnow]
  rfl

theorem assemble_receiving_data (h : s.ring.assembler = .receiving chars flag since) :
    assemble data false true noisy s = extendFrame (chars ++ [data]) (flag || noisy) s := by
  simp [assemble, h]

theorem assemble_discard_mark (h : s.ring.assembler = .discard since) :
    assemble data true true noisy s = startFrame data noisy s := by simp [assemble, h]

theorem assemble_discard_other {mark sound : Bool} (h : s.ring.assembler = .discard since)
    (hc : (sound && mark) = false) :
    assemble data mark sound noisy s = { s with ring.assembler := .discard s.now } := by simp [assemble, h, hc]

/-- The fourth character is the length byte. -/
theorem frameLength_fourth (h : chars.length = 3) : frameLength (chars ++ [data]) = data.toNat := by
  rw [frameLength, ← h]
  exact congrArg BitVec.toNat (byteAt_append_right [data] 0)

/-- The length character is refused from 57 on (R14). -/
theorem lengthRefused_iff : ((chars ++ [data]).length == 4 && decide (Config.maxPayload < frameLength (chars ++ [data])))
    = decide (chars.length = 3 ∧ 57 ≤ data.toNat) := by
  by_cases h : chars.length = 3
  · simp [h, frameLength_fourth h, Config.maxPayload, Nat.lt_iff_add_one_le]
  · simp [h]

theorem extendFrame_tooLong (h : chars.length = 3 ∧ 57 ≤ data.toNat) :
    extendFrame (chars ++ [data]) noisy s = ringFault .length { s with ring.assembler := .discard s.now } := by
  rw [extendFrame, if_pos (by rw [lengthRefused_iff, decide_eq_true h])]

theorem extendFrame_more (h : ¬(chars.length = 3 ∧ 57 ≤ data.toNat))
    (hl : (chars ++ [data]).length ≠ 6 + frameLength (chars ++ [data])) :
    extendFrame (chars ++ [data]) noisy s = { s with ring.assembler := .receiving (chars ++ [data]) noisy s.now } := by
  rw [extendFrame, if_neg (by rw [lengthRefused_iff]; simpa using h),
    if_neg (by simpa [frameIsComplete] using hl)]

theorem extendFrame_last (h : ¬(chars.length = 3 ∧ 57 ≤ data.toNat))
    (hl : (chars ++ [data]).length = 6 + frameLength (chars ++ [data])) :
    extendFrame (chars ++ [data]) noisy s = completeFrame (chars ++ [data]) noisy s := by
  rw [extendFrame, if_neg (by rw [lengthRefused_iff]; simpa using h), if_pos (by simpa [frameIsComplete] using hl)]

/-- FRAME_COMPLETE completes the frame that the byte makes as long as its length byte says. -/
theorem frameCompleteEvent_eq (h : s.ring.assembler = .receiving chars flag since)
    (hl : (chars ++ [data]).length = 6 + frameLength (chars ++ [data])) :
    frameCompleteEvent data noisy s = completeFrame (chars ++ [data]) (flag || noisy) s := by
  unfold frameCompleteEvent
  simp only [h]
  exact if_pos (by simpa [frameIsComplete] using hl)

end

/-! ## O8 -/

/-- A character in a break, a false start and a break (R3, R4, R5). -/
theorem ringCharacter_noDelivery (s : State) (c : RingSamples) (h : Awake s) :
    (s.ring.receiver.isInBreak = true → Taken (.ringCharacter c) s s)
    ∧ (s.ring.receiver.isInBreak = false → receiveRing c = .falseStart →
        exec (.ringCharacter c) s = exec .ringFalseStart s)
    ∧ (s.ring.receiver.isInBreak = false → receiveRing c = .lineBreak →
        exec (.ringCharacter c) s = exec .ringBreak s) := by
  have hchar : exec (.ringCharacter c) s = .next (arbitrate (ringCharacterEvent c s)) := event_awake h
  have hfalse : exec .ringFalseStart s = .next (arbitrate (falseStartEvent s)) := event_awake h
  have hbreak : exec .ringBreak s = .next (arbitrate (ringBreakEvent s)) := event_awake h
  refine ⟨fun hb => taken_of_event rfl h (ringCharacterEvent_inBreak hb), fun hb hc => ?_, fun hb hc => ?_⟩
  · rw [hchar, hfalse, ringCharacterEvent_falseStart hb hc, falseStartEvent_eq hb]
  · rw [hchar, hbreak, ringCharacterEvent_lineBreak hb hc, ringBreakEvent_eq hb]

/-- Settles O8, row by row of Table 1-3. -/
theorem assemblerTakesCharacters : Obligations.AssemblerTakesCharacters := by
  refine ⟨ringCharacter_noDelivery, fun s c data mark sound noisy h hb hc => ?_⟩
  intro u
  have htake {t : State} (ht : assemble data mark sound noisy u = t) : Taken (.ringCharacter c) s t :=
    taken_of_event rfl h ((ringCharacterEvent_character hb hc).trans ht)
  refine ⟨?waitMark, ?stray, fun chars flag since (ha : u.ring.assembler = _) => ⟨?unsound, ?mark, ?tooLong, ?more, ?last⟩,
    fun since ha => ⟨?discardMark, ?discardOther⟩⟩
  case waitMark =>
    rintro ha rfl rfl
    exact htake (assemble_waitMark_mark ha)
  case stray => exact fun ha hn => htake (assemble_waitMark_stray ha hn)
  case unsound =>
    rintro rfl
    exact htake (assemble_receiving_unsound ha)
  case mark =>
    rintro rfl rfl
    exact ⟨_, rfl, htake ((assemble_receiving_mark ha).trans startFrame_ringFault)⟩
  case tooLong =>
    rintro rfl rfl h3 h57
    exact htake ((assemble_receiving_data ha).trans (extendFrame_tooLong ⟨h3, h57⟩))
  case more =>
    rintro rfl rfl hn hl
    exact htake ((assemble_receiving_data ha).trans (extendFrame_more hn hl))
  case last =>
    rintro rfl rfl hn hl
    have hevent : exec (.frameComplete data noisy) u = .next (arbitrate (frameCompleteEvent data noisy u)) :=
      event_awake h
    rw [htake ((assemble_receiving_data ha).trans (extendFrame_last hn hl)), hevent, frameCompleteEvent_eq ha hl]
  case discardMark =>
    rintro rfl rfl
    exact htake (assemble_discard_mark ha)
  case discardOther => exact fun hn => htake (assemble_discard_other ha hn)

/-! ## O9 -/

theorem completeFrame_bad {f : List Byte} {noisy : Bool} {s : State} (h : checkVerifies f = false) :
    completeFrame f noisy s = ringFault .check { s with ring.assembler := .waitMark } := by
  simp [completeFrame, h]

theorem completeFrame_good {f : List Byte} {noisy : Bool} {s : State} (h : checkVerifies f = true) :
    completeFrame f noisy s = passFrame f
      { s with
        ring.assembler := .waitMark
        ring.counters.goodFrames := s.ring.counters.goodFrames + 1
        ring.counters.noisyFrames :=
          if noisy then s.ring.counters.noisyFrames + 1 else s.ring.counters.noisyFrames } := by
  cases noisy <;> simp [completeFrame, h]

/-- Settles O9. -/
theorem frameCompleteVerifies : Obligations.FrameCompleteVerifies := by
  intro s data noisy chars flag since h ha hl f
  have htake {t : State} (ht : completeFrame f (flag || noisy) s = t) : Taken (.frameComplete data noisy) s t :=
    taken_of_event rfl h ((frameCompleteEvent_eq ha hl).trans ht)
  exact ⟨fun hv => htake (completeFrame_bad hv), fun hv => htake (completeFrame_good hv)⟩

/-! ## O10 -/

theorem lineHigh_eq (r : Receiver) : r.lineHigh = if r = .waitHigh then .waitEdge else r := by
  cases r <;> simp [Receiver.lineHigh]

section
variable {s : State} {low : Ticks}

/-- While the receiver waits for the line to return high, a timeout with no low time has no effect (log 31). -/
theorem interCharacterEvent_early (h : s.ring.receiver = .waitHigh) : interCharacterEvent 0 s = s := by
  simp [interCharacterEvent, h]

/-- The state at the expiry of an inter-character timer started at `since` (R13). -/
def interCharacterEnded (low since : Ticks) (s : State) : State :=
  { s with
    now := max s.now (since + low + 8 * (11 * s.ring.rate.bitTicks))
    ring.receiver := if s.ring.receiver = .waitHigh then .waitEdge else s.ring.receiver
    ring.assembler := .waitMark }

theorem interCharacterEvent_receiving {chars : List Byte} {flag : Bool} {since : Ticks}
    (h : s.ring.assembler = .receiving chars flag since) (hlow : s.ring.receiver = .waitHigh → 0 < low) :
    interCharacterEvent low s = ringFault .truncated (interCharacterEnded low since s) := by
  have hc : ¬((s.ring.receiver == .waitHigh && low == 0) = true) := by
    simp only [Bool.and_eq_true, beq_iff_eq]
    exact fun ⟨hr, h0⟩ => (hlow hr).ne' h0
  rw [interCharacterEvent, if_neg hc, interCharacterEnded, ← lineHigh_eq]
  simp only [h]
  rfl

theorem interCharacterEvent_discard {since : Ticks}
    (h : s.ring.assembler = .discard since) (hlow : s.ring.receiver = .waitHigh → 0 < low) :
    interCharacterEvent low s = interCharacterEnded low since s := by
  have hc : ¬((s.ring.receiver == .waitHigh && low == 0) = true) := by
    simp only [Bool.and_eq_true, beq_iff_eq]
    exact fun ⟨hr, h0⟩ => (hlow hr).ne' h0
  rw [interCharacterEvent, if_neg hc, interCharacterEnded, ← lineHigh_eq]
  simp only [h]
  rfl

theorem falseStart_receiving {chars : List Byte} {flag : Bool} {since : Ticks}
    (h : s.ring.assembler = .receiving chars flag since) :
    falseStart s = { s with ring.receiver := .waitEdge, ring.assembler := .receiving chars true since } := by
  simp [falseStart, h]

theorem falseStart_other (h : s.ring.assembler.isReceiving = false) :
    falseStart s = { s with ring.receiver := .waitEdge } := by
  cases ha : s.ring.assembler <;> simp_all [falseStart, Assembler.isReceiving]

theorem queueNotice_room (h : repeaterOnly s = false) (hl : s.ring.routine.length < 8) :
    queueNotice s = (true, { s with
      ring.routine := s.ring.routine ++ [.notice]
      mgmt.counters.noticesQueued := s.mgmt.counters.noticesQueued + 1 }) := by
  simp [queueNotice, appendRoutine_room h hl]

theorem queueNotice_full (hl : 8 ≤ s.ring.routine.length) : queueNotice s = (false, s) := by
  simp [queueNotice, appendRoutine_full hl]

theorem queueNotice_repeater (h : repeaterOnly s = true) : queueNotice s = (false, s) := by
  simp [queueNotice, appendRoutine, h]

theorem noticeRetryEvent_due (hp : s.mgmt.noticePending = true) (hd : s.mgmt.noticeRetryDue = true) :
    noticeRetryEvent s =
      if (queueNotice s).1 then { (queueNotice s).2 with mgmt.noticePending := false, mgmt.noticeRetryDue := false }
      else { (queueNotice s).2 with mgmt.noticeRetryDue := false } := by
  unfold noticeRetryEvent
  rw [if_pos (by simp [hp, hd])]
  split <;> rename_i e <;> simp [e]

end

/-- Settles O10. -/
theorem timeoutFalseStartAndRetry : Obligations.TimeoutFalseStartAndRetry := by
  refine ⟨fun s chars flag since h ha => ⟨fun low hlow => ?_, fun hb => ?_⟩, fun s since low h ha hlow => ?_,
    fun s h hr => ?_, fun s h hb ha => ?_, fun s h hp hd => ⟨fun hl => ?_, fun hl => ?_⟩⟩
  · exact taken_of_event rfl h (interCharacterEvent_receiving ha hlow)
  · exact taken_of_event rfl h ((falseStartEvent_eq hb).trans (falseStart_receiving ha))
  · exact taken_of_event rfl h (interCharacterEvent_discard ha hlow)
  · exact taken_of_event rfl h (interCharacterEvent_early hr)
  · exact taken_of_event rfl h ((falseStartEvent_eq hb).trans (falseStart_other ha))
  · refine taken_of_event (f := noticeRetryEvent) rfl h.1 ?_
    rw [noticeRetryEvent_due hp hd, queueNotice_room h.2 hl]
    rfl
  · refine taken_of_event (f := noticeRetryEvent) rfl h.1 ?_
    rw [noticeRetryEvent_due hp hd, queueNotice_full hl]
    rfl

/-! ## O11 -/

/-- What a relay request changes: the transmitter of a running relay, or the pending relay (R7, log 9). -/
theorem requestRelay_frame (s : State) :
    requestRelay s = { s with
      ring.tx := (requestRelay s).ring.tx
      ring.relayPending := (requestRelay s).ring.relayPending } := by
  unfold requestRelay
  split
  · rfl
  · split <;> rfl

theorem requestRelay_running {s : State} {since base required : Ticks} (h : s.ring.tx = .relay since base required) :
    requestRelay s = { s with ring.tx := .relay since (s.now - since) required } := by
  simp [requestRelay, h]

/-- Without a relay running, one is pending after the request. -/
theorem requestRelay_idle {s : State} (h : ∀ since base required, s.ring.tx ≠ .relay since base required) :
    (requestRelay s).ring.tx = s.ring.tx
      ∧ (requestRelay s).ring.relayPending = some (s.ring.relayPending.getD 0) := by
  unfold requestRelay
  split
  · exact absurd ‹_› (h _ _ _)
  · cases hp : s.ring.relayPending <;> simp [hp]

/-- The resync actions at the detection of a break, before the relay is requested (R5). -/
def breakBegun (s : State) : State :=
  { advanceTo s.characterTicks s with
    ring.receiver := .inBreak (max s.now s.characterTicks - s.characterTicks) false
    ring.assembler := .waitMark
    ring.forward := [] }

/-- The resync actions with the fault of a frame that was under way (R12). -/
def breakResynced (s : State) : State :=
  if s.ring.assembler.isReceiving then ringFault .truncated (breakBegun s) else breakBegun s

theorem ringBreakDetected_eq (s : State) : ringBreakDetected s = requestRelay (breakResynced s) := rfl

theorem breakResynced_frame (s : State) :
    breakResynced s = { breakBegun s with
      ring.counters := (breakResynced s).ring.counters
      ring.routine := (breakResynced s).ring.routine
      mgmt := (breakResynced s).mgmt } := by
  unfold breakResynced
  split
  · rw [ringFault_frame]
  · rfl

/-- A ring fault appends to the Routine Queue at most. -/
theorem ringFault_routine_prefix (f : RingFault) (s : State) : s.ring.routine <+: (ringFault f s).ring.routine := by
  rcases raise_routine .ringError { s with ring.counters := s.ring.counters.fault f } with h | ⟨h, -⟩
  · exact (show (ringFault f s).ring.routine = _ from h) ▸ List.prefix_refl _
  · exact (show (ringFault f s).ring.routine = _ from h) ▸ List.prefix_append _ _

theorem breakResynced_routine_prefix (s : State) : s.ring.routine <+: (breakResynced s).ring.routine := by
  unfold breakResynced
  split
  · exact ringFault_routine_prefix .truncated (breakBegun s)
  · exact List.prefix_refl _

theorem ringBreakDetected_frame (s : State) :
    ringBreakDetected s = { breakBegun s with
      ring.counters := (breakResynced s).ring.counters
      ring.routine := (breakResynced s).ring.routine
      ring.tx := (ringBreakDetected s).ring.tx
      ring.relayPending := (ringBreakDetected s).ring.relayPending
      mgmt := (breakResynced s).mgmt } := by
  rw [ringBreakDetected_eq, requestRelay_frame, breakResynced_frame]

/-- Settles O11. -/
theorem breakTakesResyncActions : Obligations.BreakTakesResyncActions := by
  intro s h hb
  have hf := ringBreakDetected_frame s
  have hrec : (ringBreakDetected s).ring.receiver
      = .inBreak (max s.now (11 * s.ring.rate.bitTicks) - 11 * s.ring.rate.bitTicks) false := by rw [hf]; rfl
  have hnow : (ringBreakDetected s).now = max s.now (11 * s.ring.rate.bitTicks) := by rw [hf]; rfl
  have htx : (breakResynced s).ring.tx = s.ring.tx := by rw [breakResynced_frame]; rfl
  have hpend : (breakResynced s).ring.relayPending = s.ring.relayPending := by rw [breakResynced_frame]; rfl
  refine ⟨ringBreakDetected s, taken_of_event rfl h (ringBreakEvent_eq hb), by rw [hf]; rfl, by rw [hf]; rfl,
    by rw [hf]; rfl, by rw [hf]; rfl, ?routine, ?receiver, ?lowAtReset, ?cut, ?clean, ?idle, ?running⟩
  case routine =>
    rw [hf]
    exact breakResynced_routine_prefix s
  case receiver => rw [hrec, hnow]
  case lowAtReset =>
    intro _ hle
    rw [hrec, max_eq_right hle, Nat.sub_self]
  case cut =>
    intro hr
    have hw : breakResynced s = ringFault .truncated (breakBegun s) := if_pos hr
    rw [hf, hw]
    exact ⟨raise_ringCounters _ _, raise_latch .ringError _⟩
  case clean =>
    intro hr
    have hw : breakResynced s = breakBegun s := if_neg (by simp [hr])
    rw [hf, hw]
    exact ⟨rfl, rfl⟩
  case idle =>
    intro hn
    have hi := requestRelay_idle (s := breakResynced s) (by rwa [htx])
    rwa [htx, hpend] at hi
  case running =>
    intro since base required hr
    rw [hnow, ringBreakDetected_eq, requestRelay_running (htx.trans hr), hpend, breakResynced_frame]
    exact ⟨rfl, rfl⟩

end Sys2Proof.Machine
end

section
/-! PROOFS. The transmitter, the arbiter and the characters on Ring Out (R7, R17 to R23, R25): O13. -/

namespace Sys2Proof.Machine

/-! ## The transmitter's events -/

section
variable {s : State}

theorem gapEvent_gap {since : Ticks} (h : s.ring.tx = .gap since) :
    gapEvent s = { s with now := max s.now (since + 2 * (11 * s.ring.rate.bitTicks)), ring.tx := .ready } := by
  simp only [gapEvent, h]
  rfl

theorem frameSentEvent_sending {bytes : List Byte} {own : Bool} {since : Ticks}
    (h : s.ring.tx = .sending bytes own since) :
    frameSentEvent s =
      { s with
        now := max s.now (since + bytes.length * (11 * s.ring.rate.bitTicks))
        ring.tx := .gap (max s.now (since + bytes.length * (11 * s.ring.rate.bitTicks)))
        ring.counters.own := if own then s.ring.counters.own + 1 else s.ring.counters.own
        ring.counters.forwarded := if own then s.ring.counters.forwarded else s.ring.counters.forwarded + 1 } := by
  simp only [frameSentEvent, h]
  cases own <;> rfl

theorem relayEndEvent_relay {since base required : Ticks} (h : s.ring.tx = .relay since base required)
    (hb : s.ring.receiver.isInBreak = false) :
    relayEndEvent s =
      { s with
        now := max s.now (since + required)
        ring.tx := .gap (max s.now (since + required))
        ring.counters.relays := s.ring.counters.relays + 1 } := by
  simp [relayEndEvent, h, hb, advanceTo]

/-! ## The arbiter (R22) -/

theorem arbitrate_notReady (h : s.ring.tx ≠ .ready) : arbitrate s = s := by
  unfold arbitrate
  split
  · exact absurd ‹_› h
  · rfl

variable (ht : s.ring.tx = .ready)
include ht

theorem arbitrate_relay {len : Ticks} (hp : s.ring.relayPending = some len) :
    arbitrate s = { s with ring.relayPending := none, ring.tx := .relay s.now 0 len } := by
  simp [arbitrate, ht, hp]

variable (hp : s.ring.relayPending = none)
include hp

theorem arbitrate_forward {f : List Byte} {rest : List (List Byte)} (hf : s.ring.forward = f :: rest) :
    arbitrate s = { s with ring.forward := rest, ring.tx := .sending f false s.now } := by
  simp [arbitrate, ht, hp, hf]

variable (hf : s.ring.forward = [])
include hf

theorem arbitrate_urgent {f : OwnFrame} {rest : List OwnFrame} (hu : s.ring.urgent = f :: rest) :
    arbitrate s = { s with ring.urgent := rest, ring.tx := .sending (ownFrameBytes s f) true s.now } := by
  simp [arbitrate, ht, hp, hf, hu]

variable (hu : s.ring.urgent = [])
include hu

theorem arbitrate_routine {f : RoutineFrame} {rest : List RoutineFrame} (hr : s.ring.routine = f :: rest) :
    arbitrate s = { s with
      ring.routine := rest
      ring.tx := .sending (routineBytes s f) true s.now
      mgmt.noticeRetryDue := s.mgmt.noticePending } := by
  simp [arbitrate, ht, hp, hf, hu, hr]

theorem arbitrate_empty (hr : s.ring.routine = []) : arbitrate s = s := by
  simp [arbitrate, ht, hp, hf, hu, hr]

end

/-- A NOTICE carries the latches and the line state as they stand (R192). -/
theorem routineBytes_notice (s : State) : routineBytes s .notice = buildFrame 0 s.mgmt.ownStation 0x39
    (leBytes 4 s.mgmt.latches.toNat ++ [if s.track.line = .run then 1 else 0]) := by
  simp only [routineBytes, noticePayload]
  cases s.track.line <;> rfl

/-- The arbiter's order: relay, Forward, Urgent, Routine (R22). -/
theorem arbitrate_order (s : State) :
    (s.ring.tx ≠ .ready → arbitrate s = s)
    ∧ (s.ring.tx = .ready →
      (∀ len, s.ring.relayPending = some len →
        arbitrate s = { s with ring.relayPending := none, ring.tx := .relay s.now 0 len })
      ∧ (s.ring.relayPending = none →
        (∀ f rest, s.ring.forward = f :: rest →
          arbitrate s = { s with ring.forward := rest, ring.tx := .sending f false s.now })
        ∧ (s.ring.forward = [] →
          (∀ f rest, s.ring.urgent = f :: rest →
            arbitrate s = { s with
              ring.urgent := rest
              ring.tx := .sending (buildFrame f.dest s.mgmt.ownStation f.kind f.payload) true s.now })
          ∧ (s.ring.urgent = [] →
            (∀ f rest, s.ring.routine = .ready f :: rest →
              arbitrate s = { s with
                ring.routine := rest
                ring.tx := .sending (buildFrame f.dest s.mgmt.ownStation f.kind f.payload) true s.now
                mgmt.noticeRetryDue := s.mgmt.noticePending })
            ∧ (∀ rest, s.ring.routine = .notice :: rest →
              arbitrate s = { s with
                ring.routine := rest
                ring.tx := .sending (buildFrame 0 s.mgmt.ownStation 0x39
                  (leBytes 4 s.mgmt.latches.toNat ++ [if s.track.line = .run then 1 else 0])) true s.now
                mgmt.noticeRetryDue := s.mgmt.noticePending })
            ∧ (s.ring.routine = [] → arbitrate s = s))))) := by
  refine ⟨arbitrate_notReady, fun ht => ⟨fun _ => arbitrate_relay ht, fun hp => ⟨fun _ _ => arbitrate_forward ht hp,
    fun hf => ⟨fun _ _ => arbitrate_urgent ht hp hf, fun hu => ⟨fun _ _ => arbitrate_routine ht hp hf hu,
      fun rest hr => ?_, arbitrate_empty ht hp hf hu⟩⟩⟩⟩⟩
  rw [← routineBytes_notice]
  exact arbitrate_routine ht hp hf hu hr

/-! ## Ring Out (R23) -/

/-- The fields of a ring character: start bit 0, the data, the mark bit, stop bit 1 (section 1.2). -/
theorem ringCharacter_fields (mark : Bool) (data : Byte) :
    (ringCharacter mark data).getLsbD 0 = false ∧ (ringCharacter mark data).extractLsb' 1 8 = data
      ∧ (ringCharacter mark data).getLsbD 9 = mark ∧ (ringCharacter mark data).getLsbD 10 = true := by
  have h : ∀ m : Bool, ∀ n : Fin 256, (ringCharacter m (BitVec.ofFin n)).getLsbD 0 = false
      ∧ (ringCharacter m (BitVec.ofFin n)).extractLsb' 1 8 = BitVec.ofFin n
      ∧ (ringCharacter m (BitVec.ofFin n)).getLsbD 9 = m ∧ (ringCharacter m (BitVec.ofFin n)).getLsbD 10 = true := by
    decide +kernel
  exact h mark data.toFin

/-- The first character of a frame carries the mark, the rest do not (R23). -/
theorem getElem?_frameCharacters {f : List Byte} {k : Nat} {b : Byte} (h : f[k]? = some b) :
    (frameCharacters f)[k]? = some (ringCharacter (decide (k = 0)) b) := by
  cases f with
  | nil => simp at h
  | cons a rest =>
    cases k with
    | zero =>
      obtain rfl : a = b := by simpa using h
      rfl
    | succ k =>
      have hk : rest[k]? = some b := by simpa using h
      simp [frameCharacters, hk]

/-- Bit `j` of character `k` of the characters sent back to back. -/
theorem bitOfCharacters_at {cs : List (BitVec 11)} {c : BitVec 11} {k j : Nat} (h : cs[k]? = some c) (hj : j < 11) :
    bitOfCharacters cs (11 * k + j) = c.getLsbD j := by
  have hdiv : (11 * k + j) / 11 = k := by omega
  have hmod : (11 * k + j) % 11 = j := by omega
  simp [bitOfCharacters, Config.ringCharacterBits, hdiv, hmod, h]

theorem ringOut_sending {s : State} {bytes : List Byte} {own : Bool} {since : Ticks} (h : Awake s)
    (ht : s.ring.tx = .sending bytes own since) :
    s.ringOut = bitOfCharacters (frameCharacters bytes) ((s.now - since) / s.ring.rate.bitTicks) := by
  simp [State.ringOut, State.ringOutCharacters, show s.resetLow = false from h, ht]

theorem bitTicks_pos (r : RingRate) : 0 < r.bitTicks := by cases r <;> decide

/-- The level of Ring Out in each state of the transmitter (R7, R22, R23, R25). -/
theorem ringOut_levels (s : State) :
    (s.resetLow = true ∨ s.ring.tx = .ready → s.ringOut = true)
    ∧ (∀ since, s.ring.tx = .gap since → s.ringOut = true)
    ∧ (∀ since base required, Awake s → s.ring.tx = .relay since base required → s.ringOut = false) := by
  refine ⟨?_, fun since h => by simp [State.ringOut, h], fun since base required h ht => ?_⟩
  · rintro (h | h) <;> simp [State.ringOut, h]
  · simp [State.ringOut, show s.resetLow = false from h, ht]

/-- Settles O13. -/
theorem transmitterCyclesAndArbiterChooses : Obligations.TransmitterCyclesAndArbiterChooses := by
  refine ⟨fun s since h ht => taken_of_event rfl h (gapEvent_gap ht),
    fun s bytes own since h ht => taken_of_event rfl h (frameSentEvent_sending ht),
    fun s since base required h ht hb => taken_of_event rfl h (relayEndEvent_relay ht hb),
    arbitrate_order, fun s => ?_⟩
  obtain ⟨hhigh, hgap, hrelay⟩ := ringOut_levels s
  refine ⟨hhigh, hgap, hrelay, fun bytes own since ht => ?_⟩
  have hchars : s.ringOutCharacters = frameCharacters bytes := by simp [State.ringOutCharacters, ht]
  rw [hchars]
  refine ⟨length_frameCharacters bytes, fun k b hb => ?_⟩
  have hc := getElem?_frameCharacters hb
  obtain ⟨hstart, hdata, hmark, hstop⟩ := ringCharacter_fields (decide (k = 0)) b
  refine ⟨_, hc, hstart, hdata, hmark, hstop, receiveRing_ringCharacter _ _, fun j d hj hd hnow h => ?_⟩
  have hbit : (s.now - since) / s.ring.rate.bitTicks = 11 * k + j := by
    rw [hnow, Nat.add_assoc, Nat.add_sub_cancel_left, Nat.mul_comm, Nat.mul_add_div (bitTicks_pos _),
      Nat.div_eq_of_lt hd, Nat.add_zero]
  rw [ringOut_sending h ht, hbit, bitOfCharacters_at hc hj]

end Sys2Proof.Machine
end

section
/-! PROOFS. The Routine Queue (R21, R191, R192) and the decision on a good frame (Table 2-1): O14 and O15. -/

namespace Sys2Proof.Machine

/-! ## Raising a latch -/

section
variable {l : EventLatch} {s : State}

/-- The state with a latch set. -/
def withLatch (l : EventLatch) (s : State) : State := { s with mgmt.latches := s.mgmt.latches ||| (1#18 <<< l.number) }

theorem raise_set (h : s.latch l = true) : raise l s = s := by simp [raise, h]

theorem raise_unmasked (h : s.latch l = false) (hm : s.mask l = false) : raise l s = withLatch l s := by
  simp [raise, h, hm, withLatch, EventLatch.bit]

theorem raise_masked (h : s.latch l = false) (hm : s.mask l = true) : raise l s = noticeDue (withLatch l s) := by
  simp [raise, h, hm, withLatch, EventLatch.bit]

/-- A NOTICE that falls due while one waits or is pending is merged with it (R192). -/
theorem noticeDue_merged (h : (noticeWaits s || s.mgmt.noticePending) = true) : noticeDue s = s := if_pos h

theorem noticeDue_queued (h : (noticeWaits s || s.mgmt.noticePending) = false) (hr : repeaterOnly s = false)
    (hl : s.ring.routine.length < 8) :
    noticeDue s = { s with
      ring.routine := s.ring.routine ++ [.notice]
      mgmt.counters.noticesQueued := s.mgmt.counters.noticesQueued + 1 } := by
  simp [noticeDue, h, queueNotice, appendRoutine_room hr hl]

theorem noticeDue_deferred (h : (noticeWaits s || s.mgmt.noticePending) = false)
    (hl : repeaterOnly s = true ∨ 8 ≤ s.ring.routine.length) :
    noticeDue s = { s with
      mgmt.noticePending := true
      mgmt.counters.noticeDeferrals := s.mgmt.counters.noticeDeferrals + 1 } := by
  have ha : appendRoutine .notice s = (false, s) := by
    rcases hl with hr | hl
    · simp [appendRoutine, hr]
    · exact appendRoutine_full hl
  simp [noticeDue, h, queueNotice, ha]

end

/-! ## Replies -/

theorem appendReply_queued {dest kind : Byte} {a : Answer} {s : State} (hr : repeaterOnly s = false)
    (hl : s.ring.routine.length < 8) :
    appendReply dest kind a s = { s with
      ring.routine := s.ring.routine ++
        [.ready ⟨.managementUnit, dest, 0x38, [kind, a.status.code, a.detail] ++ a.data⟩]
      mgmt.counters.repliesQueued := s.mgmt.counters.repliesQueued + 1 } := by
  simp only [appendReply, appendRoutine_room hr hl]
  rfl

theorem appendReply_dropped {dest kind : Byte} {a : Answer} {s : State}
    (h : repeaterOnly s = true ∨ 8 ≤ s.ring.routine.length) :
    appendReply dest kind a s =
      { s with mgmt.counters.repliesDropped := s.mgmt.counters.repliesDropped + 1 } := by
  have ha (f : RoutineFrame) : appendRoutine f s = (false, s) := by
    rcases h with hr | hl
    · simp [appendRoutine, hr]
    · exact appendRoutine_full hl
  simp only [appendReply, ha]

/-- Settles O14. -/
theorem routineQueueTakesNoticesAndReplies : Obligations.RoutineQueueTakesNoticesAndReplies := by
  refine ⟨fun l s hr => ?_, fun dest kind a s => ⟨appendReply_queued, appendReply_dropped⟩⟩
  intro u
  refine ⟨raise_set, raise_unmasked, fun h hm hw => ?_, fun h hm hw hp => ⟨fun hl => ?_, fun hl => ?_⟩⟩
  · rw [raise_masked h hm]
    exact noticeDue_merged hw
  · rw [raise_masked h hm]
    exact noticeDue_queued (Bool.or_eq_false_iff.mpr ⟨hw, hp⟩) hr hl
  · rw [raise_masked h hm]
    exact noticeDue_deferred (Bool.or_eq_false_iff.mpr ⟨hw, hp⟩) (.inr hl)

/-! ## The decision on a good frame -/

section
variable {f : List Byte} {s : State}

theorem passFrame_repeater (h : repeaterOnly s = true) : passFrame f s = sendOn f s := if_pos h

theorem passFrame_orphan (h : repeaterOnly s = false) (hs : frameSource f = s.mgmt.ownStation) :
    passFrame f s = { s with pass.counters.orphans := s.pass.counters.orphans + 1 } := by simp [passFrame, h, hs]

theorem passFrame_addressed (h : repeaterOnly s = false) (hs : frameSource f ≠ s.mgmt.ownStation)
    (hd : frameDest f = s.mgmt.ownStation) : passFrame f s = addressedFrame f s := by simp [passFrame, h, hs, hd]

theorem passFrame_noRule (h : repeaterOnly s = false) (hs : frameSource f ≠ s.mgmt.ownStation)
    (hd : frameDest f ≠ s.mgmt.ownStation) (hn : ruleFor s.pass.rules f = none) : passFrame f s = sendOn f s := by
  simp [passFrame, h, hs, hd, hn]

/-- An addressed frame is counted (R39). -/
def addressed (s : State) : State := { s with pass.counters.addressed := s.pass.counters.addressed + 1 }

theorem addressedFrame_ack (hk : frameKind f = 0x14) (hl : frameLength f = 4) :
    addressedFrame f s = takeAck (byteAt (framePayload f) 0) (byteAt (framePayload f) 1) (byteAt (framePayload f) 2)
      (byteAt (framePayload f) 3) (addressed s) := by
  simp [addressedFrame, hk, hl, kindFillAck, addressed]

theorem addressedFrame_malformed (hk : frameKind f = 0x14) (hl : frameLength f ≠ 4) :
    addressedFrame f s =
      { addressed s with pass.counters.malformed := s.pass.counters.malformed + 1 } := by
  simp [addressedFrame, hk, hl, kindFillAck, addressed]

/-- The kinds that a management request has (R30). -/
theorem isHandledKind_eq (k : Byte) : isHandledKind k =
    (k == kindFillAck || (k == kindTableRead || k == kindTableWrite || k == kindAction || k == kindIdentify)) := by
  simp only [isHandledKind, Bool.or_assoc]
  rfl

theorem addressedFrame_unhandled (hk : isHandledKind (frameKind f) = false) :
    addressedFrame f s = if frameSource f = 0 then unknownKindEvent (frameKind f) (addressed s)
      else { addressed s with pass.counters.unknownKind := s.pass.counters.unknownKind + 1 } := by
  rw [isHandledKind_eq, Bool.or_eq_false_iff] at hk
  simp [addressedFrame, hk.1, hk.2, addressed]

theorem addressedFrame_managed (hk : isHandledKind (frameKind f) = true) (ha : frameKind f ≠ 0x14) :
    addressedFrame f s = manageFrame (frameSource f) (frameKind f) (framePayload f) (addressed s) := by
  have hn : (frameKind f == kindFillAck) = false := beq_eq_false_iff_ne.mpr ha
  rw [isHandledKind_eq, hn, Bool.false_or] at hk
  simp only [addressedFrame, hn, hk]
  rfl

end

/-- Settles O15, in the order of Table 2-1. -/
theorem passStageDecides : Obligations.PassStageDecides := by
  intro s f
  refine ⟨passFrame_repeater, passFrame_orphan, fun h hs hd => ?_, passFrame_noRule, sendOn_room, sendOn_full⟩
  rw [passFrame_addressed h hs hd]
  refine ⟨addressedFrame_ack, addressedFrame_malformed, fun hk h0 => ?_, fun hk h0 => ?_, addressedFrame_managed⟩
  · rw [addressedFrame_unhandled hk, if_pos h0]
    rfl
  · rw [addressedFrame_unhandled hk, if_neg h0]
    rfl

end Sys2Proof.Machine
end

section
/-! PROOFS. The line reset of the whole part (R6, R24, R42, R49, R85, R116, R137, R169, R180, R189, R192), the ends of a
break and STOP: O12 and O29. -/

namespace Sys2Proof.Machine

/-! ## Latches raised on a condition -/

/-- A latch raised where a condition holds. -/
def raiseIf (b : Bool) (l : EventLatch) (s : State) : State := if b then raise l s else s

/-- Raising a latch acts on the Ring Port and the Management Unit by these two alone. -/
theorem raise_congr {l : EventLatch} {s u : State} (hr : u.ring = s.ring) (hm : u.mgmt = s.mgmt) :
    (raise l u).ring = (raise l s).ring ∧ (raise l u).mgmt = (raise l s).mgmt := by
  unfold raise noticeDue queueNotice appendRoutine noticeWaits repeaterOnly State.latch State.mask
  simp only [hr, hm]
  split_ifs <;> simp [hr, hm]

theorem raiseIf_congr {b : Bool} {l : EventLatch} {s u : State} (hr : u.ring = s.ring) (hm : u.mgmt = s.mgmt) :
    (raiseIf b l u).ring = (raiseIf b l s).ring ∧ (raiseIf b l u).mgmt = (raiseIf b l s).mgmt := by
  cases b
  · exact ⟨hr, hm⟩
  · exact raise_congr hr hm

/-- Raising a latch on a condition changes the Ring Port and the Management Unit, and by these two alone. -/
theorem raiseIf_eq {b : Bool} {l : EventLatch} {s u : State} (hr : u.ring = s.ring) (hm : u.mgmt = s.mgmt) :
    raiseIf b l u = { u with ring := (raiseIf b l s).ring, mgmt := (raiseIf b l s).mgmt } := by
  obtain ⟨hr', hm'⟩ := raiseIf_congr (b := b) (l := l) hr hm
  rw [← hr', ← hm']
  cases b with
  | false => rfl
  | true =>
    show raise l u = { u with ring := (raise l u).ring, mgmt := (raise l u).mgmt }
    rw [raise_frame]

/-- A condition makes a NOTICE fall due: it holds, the latch is clear and its mask is on (R192). -/
def raiseFires (b : Bool) (l : EventLatch) (s : State) : Bool := b && !s.latch l && s.mask l

/-- A set latch, set again. -/
theorem latches_or_bit {l : EventLatch} {s : State} (h : s.latch l = true) :
    s.mgmt.latches ||| l.bit = s.mgmt.latches := by
  apply BitVec.eq_of_getLsbD_eq
  intro i hi
  by_cases hn : i = l.number
  · subst hn
    simp [show s.mgmt.latches.getLsbD l.number = true from h]
  · have hb : l.bit.getLsbD i = false := by
      simp only [EventLatch.bit, BitVec.getLsbD_shiftLeft, BitVec.getLsbD_one]
      simp
      omega
    simp [hb]

section
variable {b : Bool} {l : EventLatch} {s : State}

/-- Outside repeater-only mode, with room and nothing pending: the latch, and a NOTICE where none waits. -/
theorem raiseIf_listening (h : repeaterOnly s = false) (hp : s.mgmt.noticePending = false)
    (hl : s.ring.routine.length < 8) :
    raiseIf b l s = { s with
      ring.routine := s.ring.routine ++ if raiseFires b l s && !noticeWaits s then [.notice] else []
      mgmt.latches := s.mgmt.latches ||| if b then l.bit else 0
      mgmt.counters.noticesQueued := if raiseFires b l s && !noticeWaits s then s.mgmt.counters.noticesQueued + 1
        else s.mgmt.counters.noticesQueued } := by
  cases b with
  | false => simp [raiseIf, raiseFires]
  | true =>
    show raise l s = _
    cases hs : s.latch l with
    | true => simp [raise_set hs, raiseFires, hs, latches_or_bit hs]
    | false =>
      cases hm : s.mask l with
      | false => simp [raise_unmasked hs hm, raiseFires, hm, withLatch, EventLatch.bit]
      | true =>
        rw [raise_masked hs hm]
        cases hw : noticeWaits s with
        | true =>
          rw [noticeDue_merged (s := withLatch l s) (Bool.or_eq_true_iff.mpr (.inl hw))]
          simp [withLatch, EventLatch.bit]
        | false =>
          rw [noticeDue_queued (s := withLatch l s) (Bool.or_eq_false_iff.mpr ⟨hw, hp⟩) h hl]
          simp [raiseFires, hs, hm, withLatch, EventLatch.bit]

/-- In repeater-only mode, with no NOTICE waiting: the latch, and a NOTICE left pending (log 8). -/
theorem raiseIf_repeater (h : repeaterOnly s = true) (hw : noticeWaits s = false) :
    raiseIf b l s = { s with
      mgmt.latches := s.mgmt.latches ||| if b then l.bit else 0
      mgmt.noticePending := s.mgmt.noticePending || raiseFires b l s
      mgmt.counters.noticeDeferrals := if raiseFires b l s && !s.mgmt.noticePending
        then s.mgmt.counters.noticeDeferrals + 1 else s.mgmt.counters.noticeDeferrals } := by
  cases b with
  | false => simp [raiseIf, raiseFires]
  | true =>
    show raise l s = _
    cases hs : s.latch l with
    | true => simp [raise_set hs, raiseFires, hs, latches_or_bit hs]
    | false =>
      cases hm : s.mask l with
      | false => simp [raise_unmasked hs hm, raiseFires, hm, withLatch, EventLatch.bit]
      | true =>
        rw [raise_masked hs hm]
        cases hp : s.mgmt.noticePending with
        | true =>
          rw [noticeDue_merged (s := withLatch l s) (Bool.or_eq_true_iff.mpr (.inr hp))]
          simp [withLatch, EventLatch.bit, hp]
        | false =>
          rw [noticeDue_deferred (s := withLatch l s) (Bool.or_eq_false_iff.mpr ⟨hw, hp⟩) (.inl h)]
          simp [raiseFires, hs, hm, withLatch, EventLatch.bit]

end

/-! ## The blocks' shares -/

/-- The Weighing Engine's record with the window abandoned (R99). -/
def WeighingEngine.abandoned (w : WeighingEngine) : WeighingEngine :=
  { w with
    slot := .none
    counters.abandonedWindows := match w.slot with
      | .opened _ => w.counters.abandonedWindows + 1
      | _ => w.counters.abandonedWindows }

theorem engineAbandon_eq (s : State) : engineAbandon s = { s with weigh := s.weigh.abandoned } := by
  unfold engineAbandon
  cases h : s.weigh.slot <;> simp [WeighingEngine.abandoned, h]
  rw [← h]

/-- The state with the Tracking Unit's share taken, the latch apart (R85). -/
def trackingCleared (s : State) : State :=
  { s with
    track := { s.track with line := .idle, queue := [], owner := none, counters := {} }
    weigh := s.weigh.abandoned }

theorem trackingLineReset_eq (s : State) :
    trackingLineReset s = { trackingCleared s with
      ring := (raiseIf (s.track.line == .run) .lineRunOff s).ring
      mgmt := (raiseIf (s.track.line == .run) .lineRunOff s).mgmt } := by
  refine Eq.trans ?_ (raiseIf_eq (s := s) (u := trackingCleared s) rfl rfl)
  unfold trackingLineReset
  rw [engineAbandon_eq]
  rfl

/-- The Weighing Engine's record after its share (R116), the window being abandoned. -/
def WeighingEngine.onLineReset (w : WeighingEngine) : WeighingEngine :=
  { w with
    capture := none
    testMode := false
    block := SampleBlock.empty
    run := TrackingRun.empty
    counters.capturesAbandoned := match w.capture with
      | some _ => w.counters.capturesAbandoned + 1
      | none => w.counters.capturesAbandoned }

theorem weighingLineReset_eq (s : State) (h : s.weigh.slot = .none) :
    weighingLineReset s = { s with weigh := s.weigh.onLineReset } := by
  have ha : engineAbandon s = s := by simp [engineAbandon, h]
  unfold weighingLineReset dropCapture
  rw [ha]
  cases hc : s.weigh.capture <;> simp [WeighingEngine.onLineReset, hc, discardTracking]

/-- The Dose Regulator's share, the latch apart (R169). -/
def dosed (s : State) : State := { s with dose.valves := s.dose.valves.map (Valve.onLineReset s.activeLag) }

theorem doseLineReset_eq {s u : State} (hr : s.ring = u.ring) (hm : s.mgmt = u.mgmt) :
    doseLineReset s = { dosed s with
      ring := (raiseIf (s.dose.valves.any (fun x => x.state.inExchange)) .valveFault u).ring
      mgmt := (raiseIf (s.dose.valves.any (fun x => x.state.inExchange)) .valveFault u).mgmt } :=
  raiseIf_eq (u := dosed s) hr hm

/-- The Code Unit's record after its share (R137). -/
def CodeUnit.onLineReset (now : Ticks) (c : CodeUnit) : CodeUnit :=
  if c.readState = .receiving then
    { c with
      readState := .waitIdle, fifo := [], marks := {}, delivered := 0,
      idleTimer := (if c.lineHigh then some now else none),
      counters.abandoned := c.counters.abandoned + 1 }
  else c

theorem codeLineReset_eq (s : State) : codeLineReset s = { s with code := s.code.onLineReset s.now } := by
  unfold codeLineReset abandonRead CodeUnit.onLineReset
  by_cases h : s.code.readState = .receiving <;> simp [h, emptyRead]

/-! ## The whole line reset -/

/-- The Ring Port and the Management Unit before the blocks raise their latches: queues emptied, the REPLY
appended and the NOTICE that waited or was pending appended again (R189, R192). -/
def resetNoticed (reply : State → State) (s : State) : State :=
  noticeAfterReset (noticeWaits s || s.mgmt.noticePending) (reply (ringLineReset s))

/-- The state that the Ring Port and the Management Unit are left in: LINE_RUN_OFF and VALVE_FAULT raised
(R85, R169). -/
def resetRaised (reply : State → State) (s : State) : State :=
  raiseIf (s.dose.valves.any (fun x => x.state.inExchange)) .valveFault
    (raiseIf (s.track.line == .run) .lineRunOff (resetNoticed reply s))

/-- A REPLY inside a line reset changes the Routine Queue and the Management Unit at most. -/
def OnlyReplies (reply : State → State) : Prop :=
  ∀ s, reply s = { s with ring.routine := (reply s).ring.routine, mgmt := (reply s).mgmt }

theorem noticeAfterReset_frame (due : Bool) (s : State) :
    noticeAfterReset due s = { s with
      ring.routine := (noticeAfterReset due s).ring.routine
      mgmt := (noticeAfterReset due s).mgmt } := by
  cases due with
  | false => rfl
  | true =>
    unfold noticeAfterReset queueNotice
    rcases appendRoutine_cases .notice s with ⟨h, -⟩ | ⟨h, -⟩ <;> simp [h]

theorem resetNoticed_frame {reply : State → State} (h : OnlyReplies reply) (s : State) :
    resetNoticed reply s = { ringLineReset s with
      ring.routine := (resetNoticed reply s).ring.routine
      mgmt := (resetNoticed reply s).mgmt } := by
  unfold resetNoticed
  rw [noticeAfterReset_frame, h]

/-- The shares of the blocks outside the Ring Port, in the order of the event (log 15). -/
theorem blocksReset_eq (u : State) :
    inputLineReset (codeLineReset (verdictLineReset (doseLineReset (weighingLineReset (trackingLineReset u))))) =
      { u with
        ring := (raiseIf (u.dose.valves.any (fun x => x.state.inExchange)) .valveFault
          (raiseIf (u.track.line == .run) .lineRunOff u)).ring
        mgmt := (raiseIf (u.dose.valves.any (fun x => x.state.inExchange)) .valveFault
          (raiseIf (u.track.line == .run) .lineRunOff u)).mgmt
        input.index := .unknown
        track := { u.track with line := .idle, queue := [], owner := none, counters := {} }
        weigh := u.weigh.abandoned.onLineReset
        code := u.code.onLineReset u.now
        dose.valves := u.dose.valves.map (Valve.onLineReset u.activeLag)
        verdict := { u.verdict with pulse := none, lostRun := 0 } } := by
  rw [trackingLineReset_eq, weighingLineReset_eq, doseLineReset_eq (u := raiseIf (u.track.line == .run) .lineRunOff u),
    codeLineReset_eq]
  all_goals rfl

/-- A line reset, block by block. -/
theorem lineReset_eq {reply : State → State} (h : OnlyReplies reply) (s : State) :
    lineReset reply s = { s with
      ring := (resetRaised reply s).ring
      mgmt := (resetRaised reply s).mgmt
      input.index := .unknown
      track := { s.track with line := .idle, queue := [], owner := none, counters := {} }
      weigh := s.weigh.abandoned.onLineReset
      code := s.code.onLineReset s.now
      dose.valves := s.dose.valves.map (Valve.onLineReset s.activeLag)
      verdict := { s.verdict with pulse := none, lostRun := 0 } } := by
  obtain ⟨q, m, hu⟩ : ∃ q m, resetNoticed reply s = { ringLineReset s with ring.routine := q, mgmt := m } :=
    ⟨_, _, resetNoticed_frame h s⟩
  refine (blocksReset_eq (resetNoticed reply s)).trans ?_
  rw [resetRaised, hu]
  rfl

/-! ## The Routine Queue and the latches after a line reset -/

/-- Setting LINE_RUN_OFF leaves VALVE_FAULT as it is. -/
theorem raiseFires_valveFault {b c : Bool} {s u : State}
    (hl : u.mgmt.latches = s.mgmt.latches ||| if b then EventLatch.lineRunOff.bit else 0)
    (hm : u.mgmt.masks = s.mgmt.masks) : raiseFires c .valveFault u = raiseFires c .valveFault s := by
  have hb : u.latch .valveFault = s.latch .valveFault := by
    rw [State.latch, hl]
    cases b <;> simp [State.latch, EventLatch.bit, EventLatch.number]
  simp only [raiseFires, hb, State.mask, hm]

theorem noticeWaits_append {s u : State} {b : Bool}
    (h : u.ring.routine = s.ring.routine ++ if b then [.notice] else []) :
    noticeWaits u = (noticeWaits s || b) := by
  rw [noticeWaits, h]
  cases b <;> simp [noticeWaits, RoutineFrame.isNotice]

section
variable {b c : Bool} {s : State}

/-- Both latches, outside repeater-only mode: one NOTICE at most. -/
theorem raiseBoth_listening (h : repeaterOnly s = false) (hp : s.mgmt.noticePending = false)
    (hl : s.ring.routine.length < 7) :
    raiseIf c .valveFault (raiseIf b .lineRunOff s) = { s with
      ring.routine := s.ring.routine
        ++ if (raiseFires b .lineRunOff s || raiseFires c .valveFault s) && !noticeWaits s then [.notice] else []
      mgmt.latches := s.mgmt.latches ||| (if b then 1#18 <<< 17 else 0#18) ||| (if c then 1#18 <<< 1 else 0#18)
      mgmt.counters.noticesQueued :=
        if (raiseFires b .lineRunOff s || raiseFires c .valveFault s) && !noticeWaits s
        then s.mgmt.counters.noticesQueued + 1 else s.mgmt.counters.noticesQueued } := by
  have h1 := raiseIf_listening (b := b) (l := .lineRunOff) h hp (by omega)
  generalize raiseIf b .lineRunOff s = u at h1 ⊢
  have hf : raiseFires c .valveFault u = raiseFires c .valveFault s := raiseFires_valveFault (by rw [h1]) (by rw [h1])
  have hw : noticeWaits u = (noticeWaits s || raiseFires b .lineRunOff s && !noticeWaits s) :=
    noticeWaits_append (by rw [h1])
  have hlen : u.ring.routine.length < 8 := by
    rw [h1]
    simp only [List.length_append]
    split <;> simp <;> omega
  rw [raiseIf_listening (s := u) (by rw [h1]; exact h) (by rw [h1]; exact hp) hlen, hf, hw, h1]
  cases noticeWaits s with
  | true => simp [EventLatch.bit, EventLatch.number]
  | false => cases raiseFires b .lineRunOff s <;> simp [EventLatch.bit, EventLatch.number]

/-- Both latches, in repeater-only mode: a NOTICE left pending, deferred once (log 8). -/
theorem raiseBoth_repeater (h : repeaterOnly s = true) (hw : noticeWaits s = false)
    (hp : s.mgmt.noticePending = false) :
    raiseIf c .valveFault (raiseIf b .lineRunOff s) = { s with
      mgmt.latches := s.mgmt.latches ||| (if b then 1#18 <<< 17 else 0#18) ||| (if c then 1#18 <<< 1 else 0#18)
      mgmt.noticePending := raiseFires b .lineRunOff s || raiseFires c .valveFault s
      mgmt.counters.noticeDeferrals := if raiseFires b .lineRunOff s || raiseFires c .valveFault s
        then s.mgmt.counters.noticeDeferrals + 1 else s.mgmt.counters.noticeDeferrals } := by
  have h1 := raiseIf_repeater (b := b) (l := .lineRunOff) h hw
  generalize raiseIf b .lineRunOff s = u at h1 ⊢
  have hf : raiseFires c .valveFault u = raiseFires c .valveFault s := raiseFires_valveFault (by rw [h1]) (by rw [h1])
  rw [raiseIf_repeater (s := u) (by rw [h1]; exact h) (by rw [h1]; exact hw), hf, h1, hp]
  cases raiseFires b .lineRunOff s <;> simp [EventLatch.bit, EventLatch.number]

end

/-- A REPLY inside a line reset appends `replies`, counted queued, or in repeater-only mode is counted
dropped (R189). -/
structure AppendsReplies (replies : List RoutineFrame) (reply : State → State) : Prop where
  few : replies.length ≤ 1
  noNotice : replies.any RoutineFrame.isNotice = false
  queued : ∀ s : State, repeaterOnly s = false → s.ring.routine = [] →
    reply s = { s with
      ring.routine := replies
      mgmt.counters.repliesQueued := s.mgmt.counters.repliesQueued + BitVec.ofNat 32 replies.length }
  dropped : ∀ s : State, repeaterOnly s = true →
    reply s = { s with
      mgmt.counters.repliesDropped := s.mgmt.counters.repliesDropped + BitVec.ofNat 32 replies.length }
  frame : OnlyReplies reply

theorem appendsReplies_none : AppendsReplies [] id where
  few := Nat.zero_le _
  noNotice := rfl
  queued s _ hr := by
    rw [show BitVec.ofNat 32 ([] : List RoutineFrame).length = 0#32 from rfl, BitVec.add_zero, ← hr]
    rfl
  dropped s _ := by
    rw [show BitVec.ofNat 32 ([] : List RoutineFrame).length = 0#32 from rfl, BitVec.add_zero]
    rfl
  frame _ := rfl

theorem appendsReplies_lineReset :
    AppendsReplies [.ready ⟨.managementUnit, 0, 0x38, [0x32, 0, 0, 3]⟩] (actionReply 3 .ok 0) where
  few := Nat.le_refl _
  noNotice := rfl
  queued s h hr := by
    rw [actionReply, reply, appendReply_queued h (by simp [hr]), hr]
    rfl
  dropped s h := appendReply_dropped (.inl h)
  frame s := by
    rw [actionReply, reply, appendReply_frame]

theorem noticeAfterReset_queued {s : State} (h : repeaterOnly s = false) (hl : s.ring.routine.length < 8) :
    noticeAfterReset true s = { s with
      ring.routine := s.ring.routine ++ [.notice]
      mgmt.noticePending := false
      mgmt.noticeRetryDue := false
      mgmt.counters.noticesQueued := s.mgmt.counters.noticesQueued + 1 } := by
  simp [noticeAfterReset, queueNotice_room h hl]

theorem noticeAfterReset_refused {s : State} (h : repeaterOnly s = true) :
    noticeAfterReset true s = { s with mgmt.noticePending := false, mgmt.noticeRetryDue := false } := by
  simp [noticeAfterReset, queueNotice_repeater h]

section
variable {replies : List RoutineFrame} {reply : State → State} {s : State}

theorem resetNoticed_listening (ha : AppendsReplies replies reply) (h : repeaterOnly s = false) :
    resetNoticed reply s = { ringLineReset s with
      ring.routine := replies ++ if noticeWaits s || s.mgmt.noticePending then [.notice] else []
      mgmt.noticePending := false
      mgmt.noticeRetryDue := s.mgmt.noticeRetryDue && !(noticeWaits s || s.mgmt.noticePending)
      mgmt.counters.repliesQueued := s.mgmt.counters.repliesQueued + BitVec.ofNat 32 replies.length
      mgmt.counters.noticesQueued := if noticeWaits s || s.mgmt.noticePending then s.mgmt.counters.noticesQueued + 1
        else s.mgmt.counters.noticesQueued } := by
  have hr := ha.queued (ringLineReset s) h rfl
  have hfew := ha.few
  unfold resetNoticed
  generalize reply (ringLineReset s) = u at hr ⊢
  cases hd : noticeWaits s || s.mgmt.noticePending with
  | true =>
    rw [noticeAfterReset_queued (by rw [hr]; exact h) (by rw [hr]; show replies.length < 8; omega), hr]
    simp only [if_true, Bool.not_true, Bool.and_false]
    rfl
  | false =>
    have hp : s.mgmt.noticePending = false := (Bool.or_eq_false_iff.mp hd).2
    rw [show noticeAfterReset false u = u from rfl, hr]
    simp [hp]

theorem resetNoticed_repeater (ha : AppendsReplies replies reply) (h : repeaterOnly s = true) :
    resetNoticed reply s = { ringLineReset s with
      mgmt.noticePending := false
      mgmt.noticeRetryDue := s.mgmt.noticeRetryDue && !(noticeWaits s || s.mgmt.noticePending)
      mgmt.counters.repliesDropped := s.mgmt.counters.repliesDropped + BitVec.ofNat 32 replies.length } := by
  have hr := ha.dropped (ringLineReset s) h
  unfold resetNoticed
  generalize reply (ringLineReset s) = u at hr ⊢
  cases hd : noticeWaits s || s.mgmt.noticePending with
  | true =>
    rw [noticeAfterReset_refused (by rw [hr]; exact h), hr]
    simp only [Bool.not_true, Bool.and_false]
    rfl
  | false =>
    have hp : s.mgmt.noticePending = false := (Bool.or_eq_false_iff.mp hd).2
    rw [show noticeAfterReset false u = u from rfl, hr]
    simp [hp]

/-- The Ring Port and the Management Unit after a line reset, outside repeater-only mode (R189, R192). -/
theorem resetRaised_listening (ha : AppendsReplies replies reply) (h : repeaterOnly s = false) :
    resetRaised reply s = { ringLineReset s with
      ring.routine := replies
        ++ if noticeWaits s || s.mgmt.noticePending || resetRaises s then [.notice] else []
      mgmt.latches := s.mgmt.latches ||| (if s.track.line = .run then 1#18 <<< 17 else 0#18)
        ||| (if s.dose.valves.any (fun x => x.state.inExchange) then 1#18 <<< 1 else 0#18)
      mgmt.noticePending := false
      mgmt.noticeRetryDue := s.mgmt.noticeRetryDue && !(noticeWaits s || s.mgmt.noticePending)
      mgmt.counters.repliesQueued := s.mgmt.counters.repliesQueued + BitVec.ofNat 32 replies.length
      mgmt.counters.noticesQueued := if noticeWaits s || s.mgmt.noticePending || resetRaises s
        then s.mgmt.counters.noticesQueued + 1 else s.mgmt.counters.noticesQueued } := by
  have hu := resetNoticed_listening ha h
  have hfew := ha.few
  unfold resetRaised
  generalize resetNoticed reply s = u at hu ⊢
  have hw : noticeWaits u = (noticeWaits s || s.mgmt.noticePending) := by
    rw [noticeWaits, hu]
    simp only [List.any_append, ha.noNotice]
    cases noticeWaits s || s.mgmt.noticePending <;> rfl
  have hlen : u.ring.routine.length < 7 := by
    rw [hu]
    simp only [List.length_append]
    split <;> simp <;> omega
  have hraises : (raiseFires (s.track.line == .run) .lineRunOff u
      || raiseFires (s.dose.valves.any (fun x => x.state.inExchange)) .valveFault u) = resetRaises s := by
    rw [hu]
    rfl
  rw [raiseBoth_listening (by rw [hu]; exact h) (by rw [hu]) hlen, hraises, hw, hu]
  cases noticeWaits s || s.mgmt.noticePending <;> simp [beq_iff_eq]

/-- The Ring Port and the Management Unit after a line reset in repeater-only mode (log 8). -/
theorem resetRaised_repeater (ha : AppendsReplies replies reply) (h : repeaterOnly s = true) :
    resetRaised reply s = { ringLineReset s with
      mgmt.latches := s.mgmt.latches ||| (if s.track.line = .run then 1#18 <<< 17 else 0#18)
        ||| (if s.dose.valves.any (fun x => x.state.inExchange) then 1#18 <<< 1 else 0#18)
      mgmt.noticePending := resetRaises s
      mgmt.noticeRetryDue := s.mgmt.noticeRetryDue && !(noticeWaits s || s.mgmt.noticePending)
      mgmt.counters.repliesDropped := s.mgmt.counters.repliesDropped + BitVec.ofNat 32 replies.length
      mgmt.counters.noticeDeferrals := if resetRaises s
        then s.mgmt.counters.noticeDeferrals + 1 else s.mgmt.counters.noticeDeferrals } := by
  have hu := resetNoticed_repeater ha h
  unfold resetRaised
  generalize resetNoticed reply s = u at hu ⊢
  have hraises : (raiseFires (s.track.line == .run) .lineRunOff u
      || raiseFires (s.dose.valves.any (fun x => x.state.inExchange)) .valveFault u) = resetRaises s := by
    rw [hu]
    rfl
  rw [raiseBoth_repeater (by rw [hu]; exact h) (by rw [hu]; rfl) (by rw [hu]), hraises, hu]
  simp [beq_iff_eq]

end

/-! ## The valves after a change of every entry -/

/-- A change of every valve entry, read at a valve of the table. -/
theorem valve_of_map {s t : State} {f : Valve → Valve} (h : t.dose.valves = s.dose.valves.map f) {v : Nat}
    (hv : 1 ≤ v) (hl : v ≤ s.dose.valves.length) : t.valve v = f (s.valve v) := by
  have hlt : v - 1 < s.dose.valves.length := by omega
  simp [State.valve, h, List.getD_eq_getElem?_getD, List.getElem?_map, List.getElem?_eq_getElem hlt]

/-- What a line reset leaves of a valve (R169). -/
theorem valve_onLineReset (lag : Nat) (x : Valve) :
    (x.onLineReset lag).window = [] ∧ (x.onLineReset lag).limitCount = 0 ∧ (x.onLineReset lag).lag = lag
      ∧ (x.onLineReset lag).base = x.base ∧ (x.onLineReset lag).trim = x.trim
      ∧ (x.onLineReset lag).generation = x.generation ∧ (x.onLineReset lag).abandonedTag = x.abandonedTag
      ∧ (x.onLineReset lag).counters = x.counters
      ∧ (x.state.inExchange = false → (x.onLineReset lag).state = x.state)
      ∧ (x.state.inExchange = true → (x.onLineReset lag).state = .fault ∧ (x.onLineReset lag).exchange = none
          ∧ (x.onLineReset lag).timer = none ∧ (x.onLineReset lag).pendingTrim = none) := by
  unfold Valve.onLineReset Valve.endExchange
  cases h : x.state.inExchange <;> simp

/-! ## What a line reset leaves -/

theorem codeOnLineReset_idle {c : CodeUnit} (now : Ticks) (h : c.readState ≠ .receiving) : c.onLineReset now = c :=
  if_neg h

theorem codeOnLineReset_receiving {c : CodeUnit} (now : Ticks) (h : c.readState = .receiving) :
    c.onLineReset now = { c with
      readState := .waitIdle, fifo := [], marks := {}, delivered := 0,
      idleTimer := (if c.lineHigh then some now else none),
      counters.abandoned := c.counters.abandoned + 1 } :=
  if_pos h

theorem resetRaised_ring {replies : List RoutineFrame} {reply : State → State} (ha : AppendsReplies replies reply)
    (s : State) : (resetRaised reply s).ring = { s.ring with
      assembler := .waitMark, forward := [], urgent := [], routine := (resetRaised reply s).ring.routine } := by
  cases h : repeaterOnly s with
  | false => rw [resetRaised_listening ha h]; rfl
  | true => rw [resetRaised_repeater ha h]; rfl

theorem resetRaised_mgmt {replies : List RoutineFrame} {reply : State → State} (ha : AppendsReplies replies reply)
    (s : State) : (resetRaised reply s).mgmt = { s.mgmt with
      latches := s.mgmt.latches ||| (if s.track.line = .run then 1#18 <<< 17 else 0#18)
        ||| (if s.dose.valves.any (fun x => x.state.inExchange) then 1#18 <<< 1 else 0#18)
      noticePending := (resetRaised reply s).mgmt.noticePending
      noticeRetryDue := s.mgmt.noticeRetryDue && !(noticeWaits s || s.mgmt.noticePending)
      counters := (resetRaised reply s).mgmt.counters } := by
  cases h : repeaterOnly s with
  | false => rw [resetRaised_listening ha h]; rfl
  | true => rw [resetRaised_repeater ha h]; rfl

/-- A line reset leaves of every block what its rules give. -/
theorem lineReset_done {replies : List RoutineFrame} {reply : State → State} (ha : AppendsReplies replies reply)
    (s : State) : LineResetDone replies s (lineReset reply s) := by
  have ht := lineReset_eq ha.frame s
  generalize lineReset reply s = t at ht
  have hring : t.ring = (resetRaised reply s).ring := by rw [ht]
  have hmgmt : t.mgmt = (resetRaised reply s).mgmt := by rw [ht]
  have hcode : t.code = s.code.onLineReset s.now := by rw [ht]
  refine ⟨by rw [ht], by rw [ht], by rw [ht], by rw [ht], ?ring, by rw [ht], by rw [ht], ?weigh, ?codeIdle,
    ?codeReceiving, by rw [ht], ?valves, by rw [ht], ?mgmt, ?listening, ?repeater⟩
  case ring => rw [hring]; exact resetRaised_ring ha s
  case weigh => rw [ht]; rfl
  case codeIdle => exact fun h => hcode.trans (codeOnLineReset_idle s.now h)
  case codeReceiving => exact fun h => hcode.trans (codeOnLineReset_receiving s.now h)
  case valves =>
    intro v hv hl
    rw [valve_of_map (s := s) (t := t) (f := Valve.onLineReset s.activeLag) (by rw [ht]) hv hl]
    exact valve_onLineReset _ _
  case mgmt => rw [hmgmt]; exact resetRaised_mgmt ha s
  case listening =>
    intro h again
    rw [hring, hmgmt, resetRaised_listening ha h]
    exact ⟨rfl, rfl, rfl⟩
  case repeater =>
    intro h
    rw [hring, hmgmt, resetRaised_repeater ha h]
    exact ⟨rfl, rfl, rfl⟩

/-! ## The ends of a break (R5, R6, R7) -/

theorem recordBreak_frame (len : Nat) (s : State) :
    recordBreak len s = { s with
      ring.tx := (recordBreak len s).ring.tx
      ring.relayPending := (recordBreak len s).ring.relayPending } := by
  unfold recordBreak
  split <;> rfl

/-- A running relay is given the length of the break it follows (log 9). -/
theorem recordBreak_running {len : Nat} {s : State} {since base required : Ticks}
    (h : s.ring.tx = .relay since base required) :
    recordBreak len s = { s with ring.tx := .relay since base (max required (base + len)) } := by
  simp [recordBreak, h]

/-- A pending relay is given the length of the break. -/
theorem recordBreak_pending {len : Nat} {s : State}
    (h : ∀ since base required, s.ring.tx ≠ .relay since base required) :
    recordBreak len s = { s with ring.relayPending := s.ring.relayPending.map (max len) } := by
  unfold recordBreak
  split
  · exact absurd ‹_› (h _ _ _)
  · rfl

/-- The clock and the receiver at the end of a break that began at `start` and lasted `len`. -/
def breakOver (start len : Nat) (s : State) : State :=
  { advanceTo (start + len) s with ring.receiver := .waitEdge }

theorem breakEnds_eq (start len : Nat) (s : State) : breakEnds start len s = recordBreak len (breakOver start len s) :=
  rfl

/-- What the end of a break leaves: the clock, a receiver that waits for an edge, and the relay's length. -/
theorem breakEnds_spec (start len : Nat) (s : State) :
    breakEnds start len s = { s with
        now := max s.now (start + len)
        ring := { s.ring with
          receiver := .waitEdge
          tx := (breakEnds start len s).ring.tx
          relayPending := (breakEnds start len s).ring.relayPending } }
      ∧ (∀ since base required, s.ring.tx = .relay since base required →
          (breakEnds start len s).ring.tx = .relay since base (max required (base + len))
            ∧ (breakEnds start len s).ring.relayPending = s.ring.relayPending)
      ∧ ((∀ since base required, s.ring.tx ≠ .relay since base required) →
          (breakEnds start len s).ring.tx = s.ring.tx
            ∧ (breakEnds start len s).ring.relayPending = s.ring.relayPending.map (max len)) := by
  rw [breakEnds_eq]
  refine ⟨?_, fun since base required h => ?_, fun h => ?_⟩
  · rw [recordBreak_frame]
    rfl
  · rw [recordBreak_running (s := breakOver start len s) h]
    exact ⟨rfl, rfl⟩
  · rw [recordBreak_pending (s := breakOver start len s) h]
    exact ⟨rfl, rfl⟩

theorem resyncEvent_short {s : State} {start len : Nat} (h : s.ring.receiver = .inBreak start false)
    (hl : len < 160000) : resyncEvent len s =
      breakEnds start len { s with ring.counters.resyncs := s.ring.counters.resyncs + 1 } := by
  simp [resyncEvent, h, Config.longBreakTicks, Config.ticksPerMs, hl]

theorem longBreakEndEvent_long {s : State} {start len : Nat} (h : s.ring.receiver = .inBreak start true) :
    longBreakEndEvent len s = breakEnds start len s := by
  simp [longBreakEndEvent, h]

/-- LONG_BREAK takes a line reset 20 ms after the start of the break (R6). -/
theorem longBreakEvent_inBreak {s : State} {start : Nat} (h : s.ring.receiver = .inBreak start false) :
    longBreakEvent s = lineReset id
      { s with
        now := max s.now (start + 160000)
        ring.receiver := .inBreak start true
        ring.counters.longBreaks := s.ring.counters.longBreaks + 1 } := by
  simp only [longBreakEvent, h]
  rfl

/-- Settles O12. -/
theorem breaksEndAndLineReset : Obligations.BreaksEndAndLineReset := by
  refine ⟨fun s start len h hr hl => ?_, fun s start len h hr => ?_, fun s start h hr => ?_⟩
  · exact ⟨_, taken_of_event rfl h (resyncEvent_short hr hl), breakEnds_spec start len _⟩
  · exact ⟨_, taken_of_event rfl h (longBreakEndEvent_long hr), breakEnds_spec start len s⟩
  · exact ⟨_, taken_of_event rfl h (longBreakEvent_inBreak hr), lineReset_done appendsReplies_none _⟩

/-! ## STOP and LINE RESET (R59, R189) -/

theorem stopLine_idle {s : State} (h : s.track.line = .idle) : stopLine s = s := by simp [stopLine, h]

theorem stopLine_run {s : State} (h : s.track.line = .run) : stopLine s = raise .lineRunOff
    { s with
      track.line := .idle
      track.queue := []
      track.owner := none
      track.counters.flushed := s.track.counters.flushed + BitVec.ofNat 32 s.track.queue.length
      weigh := s.weigh.abandoned } := by
  simp only [stopLine, h, engineAbandon_eq]

/-- Settles O29. -/
theorem stopAndLineReset : Obligations.StopAndLineReset := by
  refine ⟨fun s h hl => ?_, fun s h hl => ?_, fun s h => ?_⟩
  · exact taken_of_request (perform := actStop) rfl h (congrArg _ (stopLine_idle (s := counted s) hl))
  · exact taken_of_request (perform := actStop) rfl h (congrArg _ (stopLine_run (s := counted s) hl))
  · have hraised := resetRaised_listening (s := counted s) appendsReplies_lineReset h.2
    refine ⟨_, taken_of_request (perform := actLineReset) rfl h rfl, lineReset_done appendsReplies_lineReset _, ?_, ?_⟩
    · rw [actLineReset, lineReset_eq appendsReplies_lineReset.frame, hraised]
      rfl
    · rw [actLineReset, lineReset_eq appendsReplies_lineReset.frame, hraised]
      rfl

end Sys2Proof.Machine
end

section
/-! PROOFS. SELECT PRODUCT and the product change (R145 to R147, R153): O42. -/

namespace Sys2Proof.Machine

/-- What a product change sets, the latch apart (R146). -/
def productChanged (p : Nat) (s : State) : State :=
  { s with
    ring.urgent := s.ring.urgent.filter (fun f => !(f.owner == .doseRegulator && f.kind == 0x11))
    track.queue := s.track.queue.map (fun r => if r.valve == 0 then r else { r with stale := true })
    dose.active := some p
    dose.valves := s.dose.valves.map
      (fun x => x.abandon.onProductChange (s.product p).nominal.toNat (s.product p).lag)
    dose.counters := { s.dose.counters with
      productChanges := s.dose.counters.productChanges + 1
      withdrawn := s.dose.counters.withdrawn + BitVec.ofNat 32 (s.ring.urgent.length
        - (s.ring.urgent.filter (fun f => !(f.owner == .doseRegulator && f.kind == 0x11))).length)
      doseChanges := s.dose.counters.doseChanges + 48 } }

theorem productChange_eq (p : Nat) (s : State) : productChange p s = raise .productChanged (productChanged p s) := by
  have hmap : s.dose.valves.map (fun x => x.abandon.onProductChange (s.product p).nominal.toNat (s.product p).lag)
      = (s.dose.valves.map Valve.abandon).map
          (Valve.onProductChange (s.product p).nominal.toNat (s.product p).lag) := by simp
  rw [productChanged, hmap]
  rfl

/-- What a product change sets in a valve, and the exchange it abandons (R146, R147). -/
theorem valve_onProductChange (nominal lag : Nat) (x : Valve) :
    let y := x.abandon.onProductChange nominal lag
    y.trim = 0 ∧ y.base = nominal ∧ y.window = [] ∧ y.limitCount = 0 ∧ y.generation = x.generation + 1 ∧ y.lag = lag
      ∧ y.counters = x.counters
      ∧ (x.state = .awaitAck → y.state = .regulating ∧ y.exchange = none ∧ y.timer = none ∧ y.pendingTrim = none
          ∧ y.abandonedTag = x.exchange.map Prod.snd)
      ∧ (x.state ≠ .awaitAck → y.state = x.state ∧ y.exchange = x.exchange ∧ y.timer = x.timer
          ∧ y.abandonedTag = x.abandonedTag) := by
  by_cases h : x.state = .awaitAck <;> simp [Valve.onProductChange, Valve.abandon, Valve.endExchange, h]

theorem selectProduct_unknown {code : BitVec 16} {s : State} (h : findProduct code s = none) :
    selectProduct code s = (.badValue, s) := by simp [selectProduct, h]

theorem selectProduct_active {code : BitVec 16} {s : State} {p : Nat} (h : findProduct code s = some p)
    (ha : s.dose.active = some p) : selectProduct code s = (.ok, s) := by simp [selectProduct, h, ha]

theorem selectProduct_change {code : BitVec 16} {s : State} {p : Nat} (h : findProduct code s = some p)
    (ha : s.dose.active ≠ some p) : selectProduct code s = (.ok, productChange p s) := by
  simp [selectProduct, h, ha]

/-- Settles O42. -/
theorem selectProductChangesAll : Obligations.SelectProductChangesAll := by
  intro s code h
  have htake {st : Status} {u : State} (hs : selectProduct code (counted s) = (st, u)) :
      Taken (.selectProduct 0 code) s (actionAnswer 4 st 0 u) :=
    taken_of_request (perform := actSelectProduct code) rfl h (by rw [actSelectProduct, hs]; rfl)
  refine ⟨fun hf => htake (selectProduct_unknown (s := counted s) hf),
    fun p hf ha => htake (selectProduct_active (s := counted s) hf ha), fun p hf ha => ?_⟩
  refine ⟨_, htake (selectProduct_change (s := counted s) hf ha), ?_⟩
  rw [productChange_eq]
  refine ⟨by rw [raise_dose]; rfl, raise_latch _ _, by rw [raise_urgent]; rfl, ?queue, ?valves, ?counters, ?frame⟩
  case queue =>
    rw [raise_track]
    simp [productChanged]
  case valves =>
    intro v hv hl
    have hmap : (raise .productChanged (productChanged p (counted s))).dose.valves = s.dose.valves.map
        (fun x => x.abandon.onProductChange (s.product p).nominal.toNat (s.product p).lag) := by
      rw [raise_dose]
      rfl
    have hy := valve_of_map hmap hv hl
    rw [hy]
    exact valve_onProductChange _ _ _
  case counters =>
    rw [raise_dose, raise_urgent]
    rfl
  case frame =>
    rw [raise_frame]
    rfl

end Sys2Proof.Machine
end

section
/-! PROOFS. What the actions PASS, DROP, SNOOP and TRIM do with a good frame, and the rewriting of a DOSE SET pair by pair
(R32 to R37, R145, R148, R153, R154): O16, O17 and O18. -/

namespace Sys2Proof.Machine

/-! ## One rule per action (R32, R34 to R36) -/

/-- The Pass Stage has no state of its own in the sending of a frame: OVERRUN is counted by the Ring Port (R17). -/
@[simp] theorem sendOn_pass (f : List Byte) (s : State) : (sendOn f s).pass = s.pass := by
  rcases Nat.lt_or_ge s.ring.forward.length 4 with h | h
  · rw [sendOn_room h]
  · rw [sendOn_full h, ringFault_frame]

section
variable {f : List Byte} {s : State} (h : repeaterOnly s = false) (hs : frameSource f ≠ s.mgmt.ownStation)
  (hd : frameDest f ≠ s.mgmt.ownStation)
include h hs hd

theorem passFrame_pass (hr : ruleFor s.pass.rules f = some .pass) : passFrame f s = sendOn f s := by
  simp [passFrame, h, hs, hd, hr]

theorem passFrame_drop (hr : ruleFor s.pass.rules f = some .drop) :
    passFrame f s = { s with pass.counters.drops := s.pass.counters.drops + 1 } := by
  simp [passFrame, h, hs, hd, hr]

theorem passFrame_snoop (hr : ruleFor s.pass.rules f = some .snoop) :
    passFrame f s = sendOn f (snoopCopy f { s with pass.counters.snoops := s.pass.counters.snoops + 1 }) := by
  simp [passFrame, h, hs, hd, hr]

theorem passFrame_trim (hr : ruleFor s.pass.rules f = some .trim) : passFrame f s = trimDecision f s := by
  simp [passFrame, h, hs, hd, hr]

end

/-- Settles O16. -/
theorem passAndDropRules : Obligations.PassAndDropRules := by
  intro s f h hs hd
  refine ⟨fun hr => ?_, passFrame_drop h hs hd⟩
  rw [passFrame_pass h hs hd hr]
  exact ⟨rfl, sendOn_pass f s, sendOn_room⟩

/-! ## The copy of a snooped frame (R35, R145) -/

section
variable {f : List Byte} {s : State}

theorem snoopCopy_otherKind (hk : frameKind f ≠ 0x10) :
    snoopCopy f s = { s with pass.counters.ignoredSnoops := s.pass.counters.ignoredSnoops + 1 } := by
  have hn : (frameKind f == kindProductSelect) = false := beq_eq_false_iff_ne.mpr hk
  simp [snoopCopy, hn]

theorem snoopCopy_malformed (hk : frameKind f = 0x10) (hl : frameLength f ≠ 2) :
    snoopCopy f s = { s with pass.counters.malformed := s.pass.counters.malformed + 1 } := by
  simp [snoopCopy, kindProductSelect, hk, hl]

theorem snoopCopy_product (hk : frameKind f = 0x10) (hl : frameLength f = 2) :
    snoopCopy f s = snoopedProduct (BitVec.ofNat 16 (leNat (framePayload f))) s := by
  simp [snoopCopy, kindProductSelect, hk, hl]

end

section
variable {code : BitVec 16} {s : State}

theorem snoopedProduct_unknown (h : findProduct code s = none) :
    snoopedProduct code s =
      raise .unknownProduct { s with dose.counters.unknownProducts := s.dose.counters.unknownProducts + 1 } := by
  simp [snoopedProduct, h]

theorem snoopedProduct_active {p : Nat} (h : findProduct code s = some p) (ha : s.dose.active = some p) :
    snoopedProduct code s = s := by simp [snoopedProduct, h, ha]

theorem snoopedProduct_change {p : Nat} (h : findProduct code s = some p) (ha : s.dose.active ≠ some p) :
    snoopedProduct code s = productChange p s := by simp [snoopedProduct, h, ha]

end

/-- Settles O17: the copy is dealt with on the state that counts the snoop, whose products are those of `s`. -/
theorem snoopTakesCopy : Obligations.SnoopTakesCopy := by
  intro s f h hs hd hr u code
  have hcopy {t : State} (ht : snoopCopy f u = t) : passFrame f s = sendOn f t := by
    rw [passFrame_snoop h hs hd hr, ht]
  refine ⟨fun hk => hcopy (snoopCopy_otherKind hk), fun hk hl => hcopy (snoopCopy_malformed hk hl),
    fun hk hl hf => hcopy ?unknown, fun p hk hl hf => ⟨fun ha => hcopy ?active, fun ha => hcopy ?change⟩⟩
  case unknown => exact (snoopCopy_product hk hl).trans (snoopedProduct_unknown (s := u) hf)
  case active => exact (snoopCopy_product hk hl).trans (snoopedProduct_active (s := u) hf ha)
  case change => exact (snoopCopy_product hk hl).trans (snoopedProduct_change (s := u) hf ha)

/-! ## A dose change (R153) -/

theorem valveInCount_iff {s : State} {v : Nat} : s.valveInCount v = true ↔ 1 ≤ v ∧ v ≤ s.dose.valveCount := by
  simp [State.valveInCount]

/-- A dose change touches the stale flags of records, the valve entries and one counter. -/
theorem doseChange_frame (v : Nat) (s : State) :
    doseChange v s = { s with
      track.queue := s.track.queue.map (fun r => if r.valve == v then { r with stale := true } else r)
      dose.valves := (doseChange v s).dose.valves
      dose.counters.doseChanges := s.dose.counters.doseChanges + 1 } := rfl

theorem valve_doseChange {v w : Nat} {s : State} (hv : 1 ≤ v) (hw : 1 ≤ w) (hl : v ≤ s.dose.valves.length) :
    (doseChange v s).valve w =
      if w = v then
        { s.valve v with generation := (s.valve v).generation + 1, window := [], lag := s.activeLag }
      else s.valve w :=
  valve_modifyValve v w _ { markStale v s with dose.counters.doseChanges := s.dose.counters.doseChanges + 1 } hv hw hl

/-! ## A captured base (R154) -/

section
variable {v dose : Nat} {s : State}

theorem captureBase_same (h : (s.valve v).base = dose) : captureBase v dose s = s := by simp [captureBase, h]

/-- A differing dose becomes the base, and is counted, before the dose change that it makes. -/
def withBase (v dose : Nat) (s : State) : State :=
  { modifyValve v (fun x => { x with base := dose }) s with
    dose.counters.baseChanges := s.dose.counters.baseChanges + 1 }

theorem valve_withBase {w : Nat} (hv : 1 ≤ v) (hw : 1 ≤ w) (hl : v ≤ s.dose.valves.length) :
    (withBase v dose s).valve w = if w = v then { s.valve v with base := dose } else s.valve w :=
  valve_modifyValve v w (fun x => { x with base := dose }) s hv hw hl

theorem captureBase_differs (h : (s.valve v).base ≠ dose) :
    captureBase v dose s = doseChange v (withBase v dose s) := by
  simp only [captureBase, beq_iff_eq, h, if_false]
  rfl

theorem valve_captureBase {w : Nat} (h : (s.valve v).base ≠ dose) (hv : 1 ≤ v) (hw : 1 ≤ w)
    (hl : v ≤ s.dose.valves.length) :
    (captureBase v dose s).valve w =
      if w = v then
        { s.valve v with
          base := dose, generation := (s.valve v).generation + 1, window := [], lag := s.activeLag }
      else s.valve w := by
  have hlen : v ≤ (withBase v dose s).dose.valves.length := by simpa [withBase] using hl
  rw [captureBase_differs h, valve_doseChange hv hw hlen, valve_withBase hv hw hl, valve_withBase hv hv hl]
  by_cases hwv : w = v
  · rw [if_pos hwv, if_pos hwv, if_pos rfl]
    rfl
  · rw [if_neg hwv, if_neg hwv, if_neg hwv]

/-- The capture leaves in the entry what the trim lent is taken from (R148), and the dose is the base after it. -/
theorem base_lentTrim_captureBase (hv : 1 ≤ v) (hl : v ≤ s.dose.valves.length) :
    ((captureBase v dose s).valve v).base = dose
      ∧ ((captureBase v dose s).valve v).lentTrim = (s.valve v).lentTrim := by
  by_cases h : (s.valve v).base = dose
  · rw [captureBase_same h]
    exact ⟨h, rfl⟩
  · rw [valve_captureBase h hv hv hl, if_pos rfl]
    exact ⟨rfl, rfl⟩

@[simp] theorem captureBase_pass : (captureBase v dose s).pass = s.pass := by
  by_cases h : (s.valve v).base = dose
  · rw [captureBase_same h]
  · rw [captureBase_differs h]
    rfl

end

/-! ## Pairs under TRIM (R36) -/

theorem rewritePair_outside {pair : List Byte} {s : State} (h : s.valveInCount (byteAt pair 0).toNat = false) :
    rewritePair pair s = (pair, s) := by simp [rewritePair, h]

theorem rewritePair_within {b lo hi : Byte} {s : State} (h : ValveIn s b.toNat) :
    rewritePair [b, lo, hi] s =
      (b :: leBytes 2 (clamp 0 65535 (((lo.toNat + 256 * hi.toNat : Nat) : Int) + (s.valve b.toNat).lentTrim)).toNat,
        captureBase b.toNat (lo.toNat + 256 * hi.toNat) s) := by
  obtain ⟨hlen, hcount, hv, hle⟩ := h
  have hin : s.valveInCount b.toNat = true := valveInCount_iff.mpr ⟨hv, hle⟩
  have hdose : leNat (slice [b, lo, hi] 1 2) = lo.toNat + 256 * hi.toNat := rfl
  obtain ⟨hbase, htrim⟩ :=
    base_lentTrim_captureBase (s := s) (dose := lo.toNat + 256 * hi.toNat) hv (by omega)
  have hb : byteAt [b, lo, hi] 0 = b := rfl
  simp only [rewritePair, hb, hin, hdose, hbase, htrim, if_true]

@[simp] theorem rewritePair_pass (pair : List Byte) (s : State) : (rewritePair pair s).2.pass = s.pass := by
  unfold rewritePair
  dsimp only
  split
  · exact captureBase_pass
  · rfl

@[simp] theorem rewritePairs_pass (ps : List (List Byte)) (s : State) : (rewritePairs ps s).2.pass = s.pass := by
  induction ps generalizing s with
  | nil => rfl
  | cons pair rest ih => exact (ih _).trans (rewritePair_pass pair s)

/-! ## A frame under TRIM (R36, R37) -/

theorem doseSetWellFormed_iff (p : List Byte) : doseSetWellFormed p = true ↔
    (2 ≤ p.length ∧ 1 ≤ (byteAt p 1).toNat ∧ (byteAt p 1).toNat ≤ 16 ∧ p.length = 2 + 3 * (byteAt p 1).toNat) := by
  simp [doseSetWellFormed, and_assoc]

/-- The rewriting of pairs is the Dose Regulator's part: the Pass Stage's own state is as before. -/
theorem rewriteFrame_pass (f : List Byte) (s : State) : (rewriteFrame f s).2.pass = s.pass := rewritePairs_pass _ s

section
variable {f : List Byte} {s : State}

theorem trimDecision_otherKind (hk : frameKind f ≠ 0x11) : trimDecision f s = sendOn f s :=
  if_pos (bne_iff_ne.mpr hk)

theorem trimDecision_malformed (hk : frameKind f = 0x11) (hw : doseSetWellFormed (framePayload f) = false) :
    trimDecision f s = sendOn f { s with pass.counters.malformed := s.pass.counters.malformed + 1 } := by
  simp [trimDecision, kindDoseSet, hk, hw]

theorem trimDecision_rewritten (hk : frameKind f = 0x11) (hw : doseSetWellFormed (framePayload f) = true) :
    trimDecision f s = sendOn (rewriteFrame f s).1
      { (rewriteFrame f s).2 with
        pass := { s.pass with counters.rewrites := s.pass.counters.rewrites + 1 } } := by
  rw [← rewriteFrame_pass f s]
  simp [trimDecision, kindDoseSet, hk, hw]

end

/-- What one rewritten pair leaves of the part where its dose differs from the held base (R153, R154). -/
theorem captureBase_spec {v dose : Nat} {s : State} (hv : ValveIn s v) (h : (s.valve v).base ≠ dose) :
    let t := captureBase v dose s
    t.valve v = { s.valve v with
        base := dose, generation := (s.valve v).generation + 1, window := [], lag := s.activeLag }
      ∧ (∀ w, 1 ≤ w → w ≠ v → t.valve w = s.valve w)
      ∧ t.track.queue = s.track.queue.map (fun x => if x.valve = v then { x with stale := true } else x)
      ∧ t.dose.counters = { s.dose.counters with
          baseChanges := s.dose.counters.baseChanges + 1, doseChanges := s.dose.counters.doseChanges + 1 }
      ∧ t = { s with track.queue := t.track.queue, dose := { s.dose with
          valves := t.dose.valves, counters := t.dose.counters } } := by
  obtain ⟨hlen, hcount, h1, hle⟩ := hv
  have hl : v ≤ s.dose.valves.length := by omega
  refine ⟨?self, fun w hw hne => ?others, ?queue, ?counters, ?frame⟩
  case self => rw [valve_captureBase h h1 h1 hl, if_pos rfl]
  case others => rw [valve_captureBase h h1 hw hl, if_neg hne]
  case queue =>
    rw [captureBase_differs h, doseChange_frame]
    simp [withBase]
  case counters =>
    rw [captureBase_differs h]
    rfl
  case frame =>
    rw [captureBase_differs h]
    rfl

/-- Settles O18: the frame by its three cases, a pair by the capture of its dose. -/
theorem trimRewritesPair : Obligations.TrimRewritesPair := by
  refine ⟨doseSetWellFormed_iff, fun s f h hs hd hr => ?frame, fun _ => rfl, fun _ _ _ => rfl,
    fun s b lo hi => ⟨fun hv => ?within, rewritePair_outside (pair := [b, lo, hi])⟩⟩
  case frame =>
    rw [passFrame_trim h hs hd hr]
    refine ⟨trimDecision_otherKind, trimDecision_malformed, trimDecision_rewritten⟩
  case within =>
    rw [rewritePair_within hv]
    exact ⟨rfl, captureBase_same, captureBase_spec hv⟩

end Sys2Proof.Machine
end

section
/-! PROOFS. TABLE WRITES of one entry to PASS RULES, PRODUCTS, VALVES, TEST WEIGHTS and EVENTS (R31, R114, R142, R143,
R168, R186, R191, R196): O49. -/

namespace Sys2Proof.Machine

/-! ## A command that writes one entry (R183, R186) -/

/-- The command c is the supervisor's TABLE WRITE of one entry inside table `id`, whose owner has the test `refuse` and
the effect `store`. -/
def WritesEntry (c : Instr) (id : Nat) (refuse : List Entry → State → Option Refused)
    (store : List Entry → State → State) (i : Byte) (data : List Byte) : Prop :=
  (∀ s, exec c s = event (takeRequest 0 kindTableWrite (writeTable id refuse store i 1 data)) s)
    ∧ ∃ t, tableShape id = some t ∧ data.length = t.writeSize ∧ t.first ≤ i.toNat ∧ i.toNat ≤ t.last

section
variable {c : Instr} {id : Nat} {refuse : List Entry → State → Option Refused} {store : List Entry → State → State}
  {i : Byte} {data : List Byte} {s : State}

theorem taken_of_stored (hw : WritesEntry c id refuse store i data) (h : Listening s)
    (hr : refuse [(i.toNat, data)] (counted s) = none) {t : State}
    (ht : store [(i.toNat, data)] (counted s) = t) :
    Taken c s (wroteReply (BitVec.ofNat 8 id) i 1 t) := by
  obtain ⟨hc, shape, hs, hd, lo, hi⟩ := hw
  refine taken_of_request (hc s) h ?_
  rw [writeTable_one id refuse store i data _ shape hs hd lo hi, hr, ← ht]
  rfl

theorem taken_of_refused (hw : WritesEntry c id refuse store i data) (h : Listening s) {st : Status}
    (hr : refuse [(i.toNat, data)] (counted s) = refuseAt st i.toNat) :
    Taken c s (refusedReply st i (BitVec.ofNat 8 id) i 1 (counted s)) := by
  obtain ⟨hc, shape, hs, hd, lo, hi⟩ := hw
  have hi8 : BitVec.ofNat 8 i.toNat = i := by simp
  refine taken_of_request (hc s) h ?_
  rw [writeTable_one id refuse store i data _ shape hs hd lo hi, hr, refuseAt, hi8]
  rfl

end

theorem firstRefusal_passes {test : Entry → Option Status} {e : Entry} (h : test e = none) :
    firstRefusal test [e] = none := by rw [firstRefusal_one, h]; rfl

theorem firstRefusal_refuses {test : Entry → Option Status} {e : Entry} {st : Status} (h : test e = some st) :
    firstRefusal test [e] = refuseAt st e.1 := by rw [firstRefusal_one, h]; rfl

/-! ## PASS RULES (R31) -/

section
variable {i : Nat} {b : List Byte} {o : Option PassRule} {s : State}

theorem writesEntry_passRules {i : Byte} (hi : i.toNat ≤ 15) (hb : b.length = 4) :
    WritesEntry (.passRulesWrite 0 i 1 b) 4 refuseRules storeRules i b :=
  ⟨fun _ => rfl, _, rfl, hb, Nat.zero_le _, hi⟩

theorem refuseRules_decoded (h : decodeRule b = some o) :
    refuseRules [(i, b)] s = none := firstRefusal_passes (by simp [h])

theorem refuseRules_undecoded (h : decodeRule b = none) :
    refuseRules [(i, b)] s = refuseAt .badValue i := firstRefusal_refuses (by simp [h])

theorem storeRules_decoded (h : decodeRule b = some o) :
    storeRules [(i, b)] s = { s with pass.rules := s.pass.rules.set i o } := by
  simp [storeRules, storeEach, h]

end

/-! ## PRODUCTS (R142, R143) -/

section
variable {i : Nat} {b : List Byte} {s : State}

theorem writesEntry_products {i : Byte} (hi : i.toNat ≤ 15) (hb : b.length = 34) :
    WritesEntry (.productsWrite 0 i 1 b) 5 refuseProducts storeProducts i b :=
  ⟨fun _ => rfl, _, rfl, hb, Nat.zero_le _, hi⟩

/-- The three tests of R142 in their order. -/
theorem refuseProducts_one : refuseProducts [(i, b)] s =
    if productInUse s i then refuseAt .inUse i
    else if ((decodeProduct b).isEmpty || (decodeProduct b).valuesHold) = false then refuseAt .badValue i
    else if sharesCode (s.dose.products.set i (decodeProduct b)) i then refuseAt .badValue i
    else none := by
  simp only [refuseProducts, firstRefusal_one, productsAfter, List.foldl_cons, List.foldl_nil]
  by_cases hu : productInUse s i = true
  · simp [hu, refuseAt]
  · by_cases hv : ((decodeProduct b).isEmpty || (decodeProduct b).valuesHold) = true
    · by_cases hc : sharesCode (s.dose.products.set i (decodeProduct b)) i = true
      · simp [hu, hv, hc, refuseAt]
      · simp [hu, hv, hc]
    · simp [hu, hv, refuseAt]

/-- An entry marked empty shares its code with none (R142). -/
theorem sharesCode_set_empty {t : List Product} {p : Product} (h : p.isEmpty = true) :
    sharesCode (t.set i p) i = false := by
  have hget : ((t.set i p).getD i Product.empty).isEmpty = true := by
    rcases Nat.lt_or_ge i t.length with hi | hi
    · simpa [List.getD_eq_getElem?_getD, hi] using h
    · simp [List.getD_eq_getElem?_getD, hi]
      rfl
  simp only [sharesCode, hget, Bool.not_true, Bool.false_and]

theorem refuseProducts_inUse (h : productInUse s i = true) : refuseProducts [(i, b)] s = refuseAt .inUse i := by
  rw [refuseProducts_one, if_pos h]

theorem refuseProducts_none (h : productInUse s i = false)
    (hv : (decodeProduct b).isEmpty = true ∨ ((decodeProduct b).valuesHold = true
      ∧ sharesCode (s.dose.products.set i (decodeProduct b)) i = false)) :
    refuseProducts [(i, b)] s = none := by
  rcases hv with he | ⟨hv, hc⟩
  · simp [refuseProducts_one, h, he, sharesCode_set_empty he]
  · simp [refuseProducts_one, h, hv, hc]

theorem refuseProducts_badValue (h : productInUse s i = false) (he : (decodeProduct b).isEmpty = false)
    (hv : (decodeProduct b).valuesHold = false
      ∨ sharesCode (s.dose.products.set i (decodeProduct b)) i = true) :
    refuseProducts [(i, b)] s = refuseAt .badValue i := by
  rcases hv with hv | hc
  · simp [refuseProducts_one, h, he, hv]
  · simp [refuseProducts_one, h, hc]

end

/-! ## EVENTS (R191) -/

section
variable {i m : Byte} {s : State}

theorem writesEntry_events (hi : i.toNat ≤ 17) :
    WritesEntry (.eventsWrite 0 i 1 [m]) 10 refuseEvents storeEvents i [m] :=
  ⟨fun _ => rfl, _, rfl, rfl, Nat.zero_le _, hi⟩

theorem refuseEvents_none (h : m.toNat ≤ 1) : refuseEvents [(i.toNat, [m])] s = none :=
  firstRefusal_passes (if_pos h)

theorem refuseEvents_badValue (h : 2 ≤ m.toNat) : refuseEvents [(i.toNat, [m])] s = refuseAt .badValue i.toNat :=
  firstRefusal_refuses (if_neg (Nat.not_le.mpr h))

end

/-! ## Valve modes (R168) -/

theorem modeState_eq_some {m : Byte} (h : m.toNat ≤ 2) :
    modeState m = some (if m = 0 then .disabled else if m = 1 then .regulating else .hold) := by
  have hm : m = 0 ∨ m = 1 ∨ m = 2 := by
    simp only [BitVec.toNat_eq]
    simp
    omega
  rcases hm with rfl | rfl | rfl <;> rfl

theorem modeState_eq_none {m : Byte} (h : 3 ≤ m.toNat) : modeState m = none := by
  obtain ⟨n, hn⟩ : ∃ n, m.toNat = n + 3 := ⟨_, (Nat.sub_add_cancel h).symm⟩
  simp [modeState, hn]

section
variable {s : State} {v : Nat} {m : Byte}

theorem modeRefusal_badIndex (h : s.dose.valveCount < v) : modeRefusal s v m = some .badIndex := by
  simp [modeRefusal, State.valveInCount, Nat.not_le.mpr h]

variable (hv : s.valveInCount v = true)
include hv

theorem modeRefusal_badValue (hm : 3 ≤ m.toNat) : modeRefusal s v m = some .badValue := by
  simp [modeRefusal, hv, modeState_eq_none hm]

theorem modeRefusal_busy (hm : m.toNat ≤ 2) (hx : (s.valve v).state.inExchange = true) :
    modeRefusal s v m = some .busy := by
  simp [modeRefusal, hv, modeState_eq_some hm, hx]

theorem modeRefusal_inUse (hm : m.toNat ≤ 2) (hx : (s.valve v).state = .lockedOut ∨ (s.valve v).state = .fault) :
    modeRefusal s v m = some .inUse := by
  rcases hx with hx | hx <;> simp [modeRefusal, hv, modeState_eq_some hm, hx, ValveState.inExchange]

theorem modeRefusal_none (hm : m.toNat ≤ 2)
    (hx : (s.valve v).state = .disabled ∨ (s.valve v).state = .regulating ∨ (s.valve v).state = .hold) :
    modeRefusal s v m = none := by
  rcases hx with hx | hx | hx <;> simp [modeRefusal, hv, modeState_eq_some hm, hx, ValveState.inExchange]

end

theorem setMode_same {st : ValveState} {x : Valve} (h : x.state = st) : x.setMode st = x := by simp [Valve.setMode, h]

theorem setMode_changed {st : ValveState} {x : Valve} (h : x.state ≠ st) :
    x.setMode st = { x with state := st, window := [], limitCount := if st = .disabled then 0 else x.limitCount } := by
  by_cases hd : st = .disabled
  · subst hd
    simp [Valve.setMode, h]
  · simp [Valve.setMode, h, hd]

theorem setMode_state (st : ValveState) (x : Valve) : (x.setMode st).state = st := by
  by_cases h : x.state = st
  · rw [setMode_same h, h]
  · rw [setMode_changed h]

theorem writesEntry_modes {i m : Byte} (lo : 1 ≤ i.toNat) (hi : i.toNat ≤ 48) :
    WritesEntry (.valveModeWrite 0 i 1 [m]) 6 refuseModes storeModes i [m] :=
  ⟨fun _ => rfl, _, rfl, rfl, lo, hi⟩

theorem refuseModes_none {i : Nat} {m : Byte} {s : State} (h : modeRefusal s i m = none) :
    refuseModes [(i, [m])] s = none := firstRefusal_passes h

theorem refuseModes_refuses {i : Nat} {m : Byte} {s : State} {st : Status} (h : modeRefusal s i m = some st) :
    refuseModes [(i, [m])] s = refuseAt st i := firstRefusal_refuses h

theorem storeModes_one {i : Nat} {m : Byte} (h : m.toNat ≤ 2) (s : State) :
    storeModes [(i, [m])] s =
      modifyValve i (Valve.setMode (if m = 0 then .disabled else if m = 1 then .regulating else .hold)) s := by
  have hm : storeModes [(i, [m])] s = storeMode i m s := rfl
  rw [hm, storeMode, modeState_eq_some h]

/-- A stored valve mode (R168): the entry of its valve alone changes, and nothing of it where the mode is its state. -/
theorem valveMode_taken {i m : Byte} {s : State} (h : Listening s) (lo : 1 ≤ i.toNat) (hi : i.toNat ≤ 48)
    (hv : ValveIn s i.toNat) (hm : m.toNat ≤ 2)
    (hx : (s.valve i.toNat).state = .disabled ∨ (s.valve i.toNat).state = .regulating
      ∨ (s.valve i.toNat).state = .hold) :
    ∃ u, Taken (.valveModeWrite 0 i 1 [m]) s (wroteReply 6 i 1 u)
      ∧ u = { counted s with dose.valves := u.dose.valves }
      ∧ (∀ w, 1 ≤ w → w ≠ i.toNat → u.valve w = s.valve w)
      ∧ (u.valve i.toNat).state = (if m = 0 then .disabled else if m = 1 then .regulating else .hold)
      ∧ ((u.valve i.toNat).state = (s.valve i.toNat).state → u.valve i.toNat = s.valve i.toNat)
      ∧ ((u.valve i.toNat).state ≠ (s.valve i.toNat).state →
          u.valve i.toNat = { s.valve i.toNat with
            state := (u.valve i.toNat).state, window := [],
            limitCount := if m = 0 then 0 else (s.valve i.toNat).limitCount }) := by
  obtain ⟨hlen, hcount, h1, hle⟩ := hv
  have hin : (counted s).valveInCount i.toNat = true := valveInCount_iff.mpr ⟨h1, hle⟩
  refine ⟨_, taken_of_stored (writesEntry_modes lo hi) h
    (refuseModes_none (modeRefusal_none (s := counted s) hin hm hx)) (storeModes_one hm _), rfl, ?_⟩
  generalize hst : (if m = 0 then ValveState.disabled else if m = 1 then .regulating else .hold) = st
  have hdis : st = .disabled ↔ m = 0 := by
    subst hst
    split_ifs <;> simp_all
  have hread {w : Nat} (hw : 1 ≤ w) : (modifyValve i.toNat (Valve.setMode st) (counted s)).valve w
      = if w = i.toNat then (s.valve i.toNat).setMode st else s.valve w :=
    valve_modifyValve i.toNat w (Valve.setMode st) (counted s) h1 hw (by rw [counted_dose]; omega)
  rw [hread h1, if_pos rfl, setMode_state]
  refine ⟨fun w hw hne => by rw [hread hw, if_neg hne], rfl, fun he => setMode_same he.symm, fun hne => ?_⟩
  rw [setMode_changed (Ne.symm hne)]
  simp only [hdis]

/-! ## TEST WEIGHTS (R114) -/

theorem netInRange_iff {x : Int} : netInRange x = true ↔ -100000 ≤ x ∧ x ≤ 999999 := by
  rw [netInRange, Bool.and_eq_true, decide_eq_true_iff, decide_eq_true_iff]
  rfl

/-- Every value of TEST WEIGHTS is read back from its four bytes (Table 10-10). -/
theorem leInt_leSigned_testWeight {i : Nat} {x : Int} (h : testWeightInRange i x = true) : leInt (leSigned 4 x) = x := by
  have hx : -100000 ≤ x ∧ x ≤ 999999 := by
    unfold testWeightInRange at h
    split_ifs at h <;> simp [netInRange_iff] at h <;> omega
  exact leInt_leSigned 4 x (by omega) (by omega) (by omega)

section
variable {i : Nat} {x : Int}

theorem testWeightInRange_weight (hi : i ≤ 7) (lo : -100000 ≤ x) (hx : x ≤ 999999) : testWeightInRange i x = true := by
  simpa [testWeightInRange, show i < 8 by omega] using netInRange_iff.mpr ⟨lo, hx⟩

theorem testWeightInRange_count (lo : 1 ≤ x) (hx : x ≤ 8) : testWeightInRange 8 x = true := by
  simp [testWeightInRange, lo, hx]

theorem testWeightInRange_mode (hx : x = 0 ∨ x = 1) : testWeightInRange 9 x = true := by
  simpa [testWeightInRange] using hx

theorem testWeightInRange_ripple (h10 : 10 ≤ i) (h13 : i ≤ 13) (lo : -32768 ≤ x) (hx : x ≤ 32767) :
    testWeightInRange i x = true := by
  simp [testWeightInRange, lo, hx, show ¬i < 8 by omega, show i ≠ 8 by omega, show i ≠ 9 by omega,
    show i < 14 by omega]

end

section
variable {t : TestState} {i : Nat} {x : Int}

theorem store_weight (hi : i ≤ 7) : t.store i x = { t with weights := t.weights.set i x } := by
  simp [TestState.store, show i < 8 by omega]

theorem store_count : t.store 8 x = { t with count := x.toNat } := by simp [TestState.store]

theorem store_mode : t.store 9 x = { t with mode := if x = 1 then .step else .fixed } := by simp [TestState.store]

theorem store_ripple (hi : 10 ≤ i) : t.store i x = { t with ripple := t.ripple.set (i - 10) x } := by
  simp [TestState.store, show ¬i < 8 by omega, show i ≠ 8 by omega, show i ≠ 9 by omega]

end

theorem writesEntry_testWeights {i : Byte} {data : List Byte} (hi : i.toNat ≤ 14) (hd : data.length = 4) :
    WritesEntry (.testWeightsWrite 0 i 1 data) 7 refuseTestWeights storeTestWeights i data :=
  ⟨fun _ => rfl, _, rfl, hd, Nat.zero_le _, hi⟩

theorem refuseTestWeights_none {i : Nat} {data : List Byte} {s : State} (h : testWeightInRange i (leInt data) = true) :
    refuseTestWeights [(i, data)] s = none := firstRefusal_passes (if_pos h)

theorem refuseTestWeights_badValue {i : Nat} {data : List Byte} {s : State}
    (h : testWeightInRange i (leInt data) = false) : refuseTestWeights [(i, data)] s = refuseAt .badValue i :=
  firstRefusal_refuses (if_neg (Bool.eq_false_iff.mp h))

/-- The step pointer of a test state that lies at or above the count returns to 0 (R114). -/
def TestState.pointed (t : TestState) : TestState := if t.count ≤ t.pointer then { t with pointer := 0 } else t

theorem pointed_below {t : TestState} (h : t.pointer < t.count) : t.pointed = t := if_neg (Nat.not_le.mpr h)

theorem pointed_store_count {t : TestState} {x : Int} : (t.store 8 x).pointed =
    { t with count := x.toNat, pointer := if x ≤ t.pointer then 0 else t.pointer } := by
  rw [store_count]
  by_cases h : x ≤ t.pointer
  · simp [TestState.pointed, h]
  · simp [TestState.pointed, h]

theorem storeTestWeights_one (i : Nat) (data : List Byte) (s : State) :
    storeTestWeights [(i, data)] s = { s with weigh.test := (s.weigh.test.store i (leInt data)).pointed } := rfl

/-- A value in its range is stored in TEST WEIGHTS (R114). -/
theorem testWeight_taken {i : Byte} {x : Int} {s : State} {t : TestState} (h : Listening s) (hi : i.toNat ≤ 14)
    (hx : testWeightInRange i.toNat x = true) (ht : (s.weigh.test.store i.toNat x).pointed = t) :
    Taken (.testWeightsWrite 0 i 1 (leSigned 4 x)) s (wroteReply 7 i 1 { counted s with weigh.test := t }) := by
  have hread := leInt_leSigned_testWeight hx
  subst ht
  refine taken_of_stored (writesEntry_testWeights hi (length_leSigned 4 x)) h
    (refuseTestWeights_none (by rwa [hread])) ?_
  rw [storeTestWeights_one, hread]
  rfl

/-! ## The five tables together -/

/-- Settles O49, table by table. -/
theorem tableEntriesWritten : Obligations.TableEntriesWritten := by
  refine ⟨fun s i h => ⟨?rule, ?badRule, ?productInUse, ?product, ?badProduct, ?mask, ?badMask⟩,
    fun s i h => ⟨?mode, ?badMode, ?outside, ?weight, ?count, ?ripple, ?stepMode, ?badWeight⟩⟩
  case rule =>
    exact fun b o hi hb hd => taken_of_stored (writesEntry_passRules hi hb) h (refuseRules_decoded hd)
      (storeRules_decoded hd)
  case badRule =>
    exact fun b hi hb hd => taken_of_refused (writesEntry_passRules hi hb) h (refuseRules_undecoded hd)
  case productInUse =>
    exact fun b hi hb hu => taken_of_refused (writesEntry_products hi hb) h
      (refuseProducts_inUse (s := counted s) hu)
  case product =>
    exact fun b hi hb hu hv => taken_of_stored (writesEntry_products hi hb) h
      (refuseProducts_none (s := counted s) hu hv) rfl
  case badProduct =>
    exact fun b hi hb hu he hv => taken_of_refused (writesEntry_products hi hb) h
      (refuseProducts_badValue (s := counted s) hu he hv)
  case mask => exact fun m hi hm => taken_of_stored (writesEntry_events hi) h (refuseEvents_none hm) rfl
  case badMask => exact fun m hi hm => taken_of_refused (writesEntry_events hi) h (refuseEvents_badValue hm)
  case mode =>
    intro m lo hi hv hm
    have hin : (counted s).valveInCount i.toNat = true := valveInCount_iff.mpr hv.2.2
    exact ⟨fun hx => taken_of_refused (writesEntry_modes lo hi) h (refuseModes_refuses (modeRefusal_busy hin hm hx)),
      fun hx => taken_of_refused (writesEntry_modes lo hi) h (refuseModes_refuses (modeRefusal_inUse hin hm hx)),
      valveMode_taken h lo hi hv hm⟩
  case badMode =>
    intro m lo hi hv hm
    have hin : (counted s).valveInCount i.toNat = true := valveInCount_iff.mpr hv.2.2
    exact taken_of_refused (writesEntry_modes lo hi) h (refuseModes_refuses (modeRefusal_badValue hin hm))
  case outside =>
    exact fun m lo hi hc => taken_of_refused (writesEntry_modes lo hi) h
      (refuseModes_refuses (modeRefusal_badIndex (s := counted s) hc))
  case weight =>
    intro x hi lo hx hp
    refine testWeight_taken h (by omega) (testWeightInRange_weight hi lo hx) ?_
    rw [store_weight hi]
    exact pointed_below hp
  case count =>
    rintro x rfl lo hx
    exact testWeight_taken h (by decide) (testWeightInRange_count lo hx) pointed_store_count
  case ripple =>
    intro x h10 h13 lo hx hp
    refine testWeight_taken h (by omega) (testWeightInRange_ripple h10 h13 lo hx) ?_
    rw [store_ripple h10]
    exact pointed_below hp
  case stepMode =>
    rintro x rfl hx hp
    refine testWeight_taken h (by decide) (testWeightInRange_mode hx) ?_
    exact (congrArg TestState.pointed store_mode).trans (pointed_below hp)
  case badWeight =>
    exact fun data hi hd hx => taken_of_refused (writesEntry_testWeights hi hd) h (refuseTestWeights_badValue hx)

end Sys2Proof.Machine
end

section
/-! PROOFS. The Input Unit: the filters of the discrete inputs and of the encoder, HOME and the encoder's steps (R40 to
R45, R48): O19, O21, O22 and O23. -/

namespace Sys2Proof.Machine

/-! ## The filter of a discrete input (R40, R41) -/

section
variable {i : Input} {level : Bool} {since : Ticks} {s : State}

@[simp] theorem filterOf_setFilter (u : InputUnit) (i : Input) (f : InputFilter) : (u.setFilter i f).filterOf i = f := by
  cases i <;> rfl

/-- Two changes of one filter are one. -/
theorem modifyFilter_modifyFilter (i : Input) (f g : InputFilter → InputFilter) (s : State) :
    modifyFilter i g (modifyFilter i f s) = modifyFilter i (fun x => g (f x)) s := by
  cases i <;> rfl

/-- The glitch counters lie outside the filters. -/
theorem glitch_modifyFilter (i : Input) (f : InputFilter → InputFilter) (s : State) :
    { modifyFilter i f s with input.counters := (modifyFilter i f s).input.counters.glitch i } =
      modifyFilter i f { s with input.counters := s.input.counters.glitch i } := by
  cases i <;> rfl

theorem acceptInput_eq (i : Input) (s : State) :
    acceptInput i s = deliverEdge i (s.input.filterOf i).pin
      (modifyFilter i (fun f => { f with accepted := f.pin, filter := .stable }) s) := rfl

/-- Falling edges act on the accepted level only (R40, R48, R51 to R53). -/
theorem deliverEdge_low (i : Input) (s : State) : deliverEdge i false s = s := by
  cases i <;> rfl

/-- So do POCKET's changes (R52). -/
theorem deliverEdge_pocket (level : Bool) (s : State) : deliverEdge .pocket level s = s := rfl

theorem inputPinEvent_same (h : (s.input.filterOf i).pin = level) : inputPinEvent i level s = s := by
  simp [inputPinEvent, h]

section
variable (hp : (s.input.filterOf i).pin ≠ level)
include hp

theorem inputPinEvent_starts (hf : (s.input.filterOf i).filter = .stable) (ht : (s.input.filterOf i).time ≠ 0) :
    inputPinEvent i level s = modifyFilter i (fun f => { f with pin := level, filter := .changing s.now }) s := by
  simp only [inputPinEvent, beq_iff_eq, hp, hf, ht, if_false, modifyFilter_modifyFilter]
  rfl

theorem inputPinEvent_atOnce (hf : (s.input.filterOf i).filter = .stable) (ht : (s.input.filterOf i).time = 0) :
    inputPinEvent i level s = deliverEdge i level
      (modifyFilter i (fun f => { f with pin := level, accepted := level, filter := .stable }) s) := by
  simp only [inputPinEvent, beq_iff_eq, hp, hf, ht, if_false, if_true, acceptInput_eq, modifyFilter_modifyFilter,
    modifyFilter_input, filterOf_setFilter]

theorem inputPinEvent_glitch (hf : (s.input.filterOf i).filter = .changing since) :
    inputPinEvent i level s = modifyFilter i (fun f => { f with pin := level, filter := .stable })
      { s with input.counters := s.input.counters.glitch i } := by
  simp only [inputPinEvent, beq_iff_eq, hp, hf, if_false, glitch_modifyFilter, modifyFilter_modifyFilter]

end

theorem filterTicks_eq (us : Nat) : filterTicks us = 8 * us := Nat.mul_comm us 8

/-- The part with a level accepted that the pin has held for the filter time, at its due time or later (R40, log 2); the
edge is not delivered yet. -/
def edgeHeld (i : Input) (level : Bool) (since : Ticks) (s : State) : State :=
  { modifyFilter i (fun f => { f with accepted := level, filter := .stable }) s with
    now := max s.now (since + 8 * (s.input.filterOf i).time) }

theorem holdTimerEvent_held (hf : (s.input.filterOf i).filter = .changing since)
    (hp : (s.input.filterOf i).pin = level) :
    holdTimerEvent i level s = deliverEdge i level (edgeHeld i level since s) := by
  simp only [holdTimerEvent, hf, hp, beq_self_eq_true, if_true, acceptInput, advanceTo_input, filterTicks_eq]
  rfl

end

/-- Settles O19. -/
theorem discreteInputsFilter : Obligations.DiscreteInputsFilter := by
  refine ⟨fun s i level h => ⟨fun hp => ?same, fun hp => ⟨fun hf ht => ?starts, fun hf ht => ?atOnce,
    fun since hf => ?glitch⟩⟩, fun s i since h hf hp => ?falling, fun s since h hf => ?pocket⟩
  case same => exact taken_of_event rfl h (inputPinEvent_same hp)
  case starts => exact taken_of_event rfl h (inputPinEvent_starts hp hf ht)
  case atOnce => exact taken_of_event rfl h (inputPinEvent_atOnce hp hf ht)
  case glitch => exact taken_of_event rfl h (inputPinEvent_glitch hp hf)
  case falling => exact taken_of_event rfl h ((holdTimerEvent_held hf hp).trans (deliverEdge_low i _))
  case pocket =>
    exact taken_of_event rfl h ((holdTimerEvent_held (i := .pocket) hf rfl).trans (deliverEdge_pocket _ _))

/-! ## HOME (R48) -/

section
variable {s : State}

theorem homeEdge_noCount (h : s.dose.valveCount = 0) :
    homeEdge s = { s with input.counters.homeEdges := s.input.counters.homeEdges + 1 } := by
  simp [homeEdge, h]

theorem homeEdge_arms (h : s.dose.valveCount ≠ 0) (hv : ∀ v, s.input.index = .atValve v → s.dose.valveCount ≤ v) :
    homeEdge s = { s with
      input.counters.homeEdges := s.input.counters.homeEdges + 1
      input.index := .armed } := by
  cases hi : s.input.index with
  | unknown => simp [homeEdge, h, hi]
  | armed => simp [homeEdge, h, hi]
  | atValve v => simp [homeEdge, h, hi, Nat.not_lt.mpr (hv v hi)]

theorem homeEdge_slips {v : Nat} (hi : s.input.index = .atValve v) (hv : v < s.dose.valveCount) :
    homeEdge s = raise .indexSlip { s with
      input.counters.homeEdges := s.input.counters.homeEdges + 1
      input.index := .armed
      input.counters.slips := s.input.counters.slips + 1 } := by
  simp [homeEdge, show s.dose.valveCount ≠ 0 by omega, hi, hv]

end

/-- Settles O21. -/
theorem homeArmsIndex : Obligations.HomeArmsIndex := by
  intro s since h hf hp u
  have htake {t : State} (ht : homeEdge (edgeHeld .home true since s) = t) : Taken .homeEdge s t :=
    taken_of_event rfl h ((holdTimerEvent_held (i := .home) hf hp).trans ht)
  exact ⟨fun hc => htake (homeEdge_noCount hc), fun hc hv => htake (homeEdge_arms hc hv),
    fun v hi hv => htake (homeEdge_slips hi hv)⟩

/-! ## The encoder (R43 to R45) -/

section
variable {s : State} {a b : Bool}

/-- One step of Table 3-3, from any pair. -/
theorem encoderStepOf_next (a b : Bool) :
    encoderStepOf (a, b) (!b, a) = some .forward ∧ encoderStepOf (a, b) (b, !a) = some .reverse
      ∧ encoderStepOf (a, b) (!a, !b) = none := by
  cases a <;> cases b <;> exact ⟨rfl, rfl, rfl⟩

/-- The pair on the pins taken over, its step not yet judged. -/
def pairAccepted (s : State) : State :=
  { s with input.encoder.accepted := s.input.encoder.pins, input.encoder.filter := .stable }

theorem countStep_forward (ha : s.input.encoder.accepted = (a, b)) (hp : s.input.encoder.pins = (!b, a)) :
    countStep s = (some .forward,
      { pairAccepted s with input.count := s.input.count + 1, input.direction := .forward }) := by
  simp [countStep, pairAccepted, ha, hp, (encoderStepOf_next a b).1]

theorem countStep_reverse (ha : s.input.encoder.accepted = (a, b)) (hp : s.input.encoder.pins = (b, !a)) :
    countStep s = (some .reverse,
      { pairAccepted s with input.count := s.input.count - 1, input.direction := .reverse }) := by
  simp [countStep, pairAccepted, ha, hp, (encoderStepOf_next a b).2.1]

theorem countStep_illegal (ha : s.input.encoder.accepted = (a, b)) (hp : s.input.encoder.pins = (!a, !b)) :
    countStep s = (none, pairAccepted s) := by
  simp [countStep, pairAccepted, ha, hp, (encoderStepOf_next a b).2.2]

/-- No station point is taken at a reverse step (R45, R71). -/
theorem positionEvent_reverse (s : State) : positionEvent .reverse s = s := by
  unfold positionEvent
  cases s.track.line <;> rfl

theorem acceptPair_forward (ha : s.input.encoder.accepted = (a, b)) (hp : s.input.encoder.pins = (!b, a)) :
    acceptPair s = positionEvent .forward
      { pairAccepted s with input.count := s.input.count + 1, input.direction := .forward } := by
  rw [acceptPair, countStep_forward ha hp]
  rfl

theorem acceptPair_reverse (ha : s.input.encoder.accepted = (a, b)) (hp : s.input.encoder.pins = (b, !a)) :
    acceptPair s = { pairAccepted s with input.count := s.input.count - 1, input.direction := .reverse } := by
  rw [acceptPair, countStep_reverse ha hp]
  exact positionEvent_reverse _

theorem acceptPair_illegal (ha : s.input.encoder.accepted = (a, b)) (hp : s.input.encoder.pins = (!a, !b)) :
    acceptPair s = raise .encoderError
      { s with
        input.encoder.accepted := (!a, !b)
        input.encoder.filter := .stable
        input.counters.encoderErrors := s.input.counters.encoderErrors + 1 } := by
  rw [acceptPair, countStep_illegal ha hp, ← hp]
  rfl

theorem encoderPinEvent_back (hp : s.input.encoder.pins ≠ (a, b)) (ha : s.input.encoder.accepted = (a, b)) :
    encoderPinEvent a b s = { s with
      input.encoder.pins := (a, b)
      input.encoder.filter := .stable
      input.counters.glitchEncoder := s.input.counters.glitchEncoder + 1 } := by
  simp only [encoderPinEvent, beq_eq_false_iff_ne.mpr hp, ha, beq_self_eq_true]
  rfl

theorem encoderPinEvent_starts (hp : s.input.encoder.pins ≠ (a, b)) (ha : s.input.encoder.accepted ≠ (a, b))
    (ht : s.input.encoder.time ≠ 0) : encoderPinEvent a b s = { s with
      input.encoder.pins := (a, b)
      input.encoder.filter := .changing s.now } := by
  simp only [encoderPinEvent, beq_eq_false_iff_ne.mpr hp, beq_eq_false_iff_ne.mpr ha, beq_eq_false_iff_ne.mpr ht]
  rfl

theorem encoderPinEvent_atOnce (hp : s.input.encoder.pins ≠ (a, b)) (ha : s.input.encoder.accepted ≠ (a, b))
    (ht : s.input.encoder.time = 0) :
    encoderPinEvent a b s = acceptPair { s with input.encoder.pins := (a, b) } := by
  simp only [encoderPinEvent, beq_eq_false_iff_ne.mpr hp, beq_eq_false_iff_ne.mpr ha, ht]
  rfl

theorem encoderStepEvent_held {since : Ticks} (hf : s.input.encoder.filter = .changing since) :
    encoderStepEvent s = acceptPair { s with now := max s.now (since + 8 * s.input.encoder.time) } := by
  simp only [encoderStepEvent, hf, filterTicks_eq]
  rfl

/-- A pair that starts its hold timer at a filter time of 0 has been held at once. -/
theorem encoderStepEvent_zero (ht : s.input.encoder.time = 0) :
    encoderStepEvent { s with input.encoder.pins := (a, b), input.encoder.filter := .changing s.now } =
      acceptPair { s with input.encoder.pins := (a, b) } := by
  have hnow : max s.now (s.now + 8 * s.input.encoder.time) = s.now := by simp [ht]
  rw [encoderStepEvent_held (since := s.now) rfl, hnow]
  rfl

end

/-- Settles O22: the pins' changes by the pair they leave, the steps by Table 3-3. -/
theorem encoderCountsSteps : Obligations.EncoderCountsSteps := by
  refine ⟨fun s a b h hp => ⟨fun ha => ?back, fun ha ht => ?starts, fun ha ht => ?atOnce⟩,
    fun s since a b h hf ha => ⟨?accepts, fun hp => ?forward, fun hp => ?reverse⟩⟩
  case back => exact taken_of_event rfl h (encoderPinEvent_back hp ha)
  case starts => exact taken_of_event rfl h (encoderPinEvent_starts hp ha ht)
  case atOnce =>
    have hchange : Taken (.encoderPinChange a b) s _ := taken_of_event rfl h (encoderPinEvent_atOnce hp ha ht)
    refine Eq.trans hchange (Eq.symm ?_)
    exact taken_of_event (c := .encoderStep) rfl h (encoderStepEvent_zero ht)
  case accepts => exact taken_of_event rfl h (encoderStepEvent_held hf)
  case forward => exact taken_of_event rfl h ((encoderStepEvent_held hf).trans (acceptPair_forward ha hp))
  case reverse => exact taken_of_event rfl h ((encoderStepEvent_held hf).trans (acceptPair_reverse ha hp))

/-- Settles O23. -/
theorem illegalStepCountsError : Obligations.IllegalStepCountsError := by
  refine ⟨fun s a b ha hp => acceptPair_illegal ha hp, fun s since a b h hf ha hp => ?held,
    fun s a b h ha hp ht => ?atOnce⟩
  case held => exact taken_of_event rfl h ((encoderStepEvent_held hf).trans (acceptPair_illegal ha hp))
  case atOnce =>
    have hne : s.input.encoder.accepted ≠ (!a, !b) := by rw [ha]; cases a <;> simp
    exact taken_of_event rfl h ((encoderPinEvent_atOnce hp hne ht).trans (acceptPair_illegal ha rfl))

end Sys2Proof.Machine
end

section
/-! PROOFS. What a discharge and a confirm event do (R47, R51, R53, R64 to R66, R151, R152, R175): O20 and O46. -/

namespace Sys2Proof.Machine

/-! ## A discharge (R47, R51, R64, R66, R152) -/

section
variable {s : State} {v : Nat} {present : Bool}

/-- The valve that the next discharge carries (Table 3-4). -/
def carriedValve (s : State) : Nat := (advanceIndex s.dose.valveCount s.input.index).1

/-- The Input Unit's own share of a discharge: the valve index of Table 3-4 and the two counters (R47, R51). -/
def discharged (s : State) : State :=
  { s with
    input.index := (advanceIndex s.dose.valveCount s.input.index).2
    input.counters.discharges := s.input.counters.discharges + 1
    input.counters.cansPresent :=
      if s.input.pocket.accepted then s.input.counters.cansPresent + 1 else s.input.counters.cansPresent }

theorem dischargeEdge_eq (s : State) : dischargeEdge s = lagDecrement (carriedValve s)
    (trackDischarge (carriedValve s) s.input.pocket.accepted (discharged s)) := by
  unfold dischargeEdge discharged
  cases s.input.pocket.accepted <;> rfl

theorem trackDischarge_skips (h : s.track.line = .idle ∨ present = false) : trackDischarge v present s = s := by
  unfold trackDischarge
  rcases h with h | h <;> simp only [h]
  cases s.track.line <;> rfl

theorem trackDischarge_run (hl : s.track.line = .run) : trackDischarge v true s = admitRecord v s := by
  simp [trackDischarge, hl]

theorem trackDischarge_admits (hl : s.track.line = .run) (hq : s.track.queue.length < 128) :
    trackDischarge v true s = { s with
      track.queue := insertByOrigin (admittedRecord v s) s.track.queue
      track.nextSerial := s.serialToGive + 1
      track.counters.admitted := s.track.counters.admitted + 1 } := by
  rw [trackDischarge_run hl]
  exact if_pos hq

theorem trackDischarge_overflows (hl : s.track.line = .run) (hq : 128 ≤ s.track.queue.length) :
    trackDischarge v true s =
      raise .trackOverflow { s with track.counters.overflow := s.track.counters.overflow + 1 } := by
  rw [trackDischarge_run hl]
  exact if_neg (Nat.not_lt.mpr hq)

/-- A discharge is left alone, admitted or counted as an overflow. -/
theorem trackDischarge_cases (v : Nat) (present : Bool) (s : State) :
    ((s.track.line = .idle ∨ present = false) ∧ trackDischarge v present s = s)
    ∨ (s.track.line = .run ∧ present = true ∧ s.track.queue.length < 128)
    ∨ (s.track.line = .run ∧ present = true ∧ 128 ≤ s.track.queue.length) := by
  cases hl : s.track.line with
  | idle => exact .inl ⟨.inl rfl, trackDischarge_skips (.inl hl)⟩
  | run =>
    cases present with
    | false => exact .inl ⟨.inr rfl, trackDischarge_skips (.inr rfl)⟩
    | true => exact .inr ((Nat.lt_or_ge _ 128).imp (⟨rfl, rfl, ·⟩) (⟨rfl, rfl, ·⟩))

/-- The Tracking Unit's share of a discharge touches its own unit and what raising a latch touches. -/
theorem trackDischarge_frame (v : Nat) (present : Bool) (s : State) :
    trackDischarge v present s = { s with
      ring.routine := (trackDischarge v present s).ring.routine
      track := (trackDischarge v present s).track
      mgmt := (trackDischarge v present s).mgmt } := by
  rcases trackDischarge_cases v present s with ⟨-, h⟩ | ⟨hl, rfl, hq⟩ | ⟨hl, rfl, hq⟩
  · rw [h]
  · rw [trackDischarge_admits hl hq]
  · rw [trackDischarge_overflows hl hq, raise_frame]

/-- Where no overflow is counted, no latch is raised. -/
theorem trackDischarge_quiet
    (h : (trackDischarge v present s).track.counters.overflow = s.track.counters.overflow) :
    (trackDischarge v present s).ring = s.ring ∧ (trackDischarge v present s).mgmt = s.mgmt := by
  rcases trackDischarge_cases v present s with ⟨-, he⟩ | ⟨hl, rfl, hq⟩ | ⟨hl, rfl, hq⟩
  · rw [he]
    exact ⟨rfl, rfl⟩
  · rw [trackDischarge_admits hl hq]
    exact ⟨rfl, rfl⟩
  · rw [trackDischarge_overflows hl hq] at h
    simp at h

theorem lagDecrement_frame (v : Nat) (s : State) :
    lagDecrement v s = { s with dose.valves := (lagDecrement v s).dose.valves } := by
  unfold lagDecrement
  split <;> rfl

/-- A discharge that carries no valve counts down no lag (R152). -/
theorem lagDecrement_zero (s : State) : lagDecrement 0 s = s := by simp [lagDecrement, State.valveInCount]

theorem valve_lagDecrement (hv : ValveIn s v) :
    (lagDecrement v s).valve v = { s.valve v with lag := (s.valve v).lag - 1 } := by
  obtain ⟨hlen, hcount, h1, hle⟩ := hv
  rw [lagDecrement, if_pos (valveInCount_iff.mpr ⟨h1, hle⟩), valve_modifyValve v v _ s h1 h1 (by omega), if_pos rfl]

theorem valve_lagDecrement_other {w : Nat} (hw : 1 ≤ w) (hne : w ≠ v) :
    (lagDecrement v s).valve w = s.valve w := by
  unfold lagDecrement
  split
  · rename_i h
    obtain ⟨h1, -⟩ := valveInCount_iff.mp h
    have hi : v - 1 ≠ w - 1 := by omega
    simp [State.valve, List.getD_eq_getElem?_getD, hi]
  · rfl

/-- A discharge touches the unit that takes it, the Tracking Unit, the valve entries and what raising a latch touches. -/
theorem dischargeEdge_frame (s : State) : dischargeEdge s = { discharged s with
    ring.routine := (dischargeEdge s).ring.routine
    track := (dischargeEdge s).track
    dose.valves := (dischargeEdge s).dose.valves
    mgmt := (dischargeEdge s).mgmt } := by
  rw [dischargeEdge_eq, lagDecrement_frame, trackDischarge_frame]

theorem dischargeEdge_track (s : State) : (dischargeEdge s).track =
    (trackDischarge (carriedValve s) s.input.pocket.accepted (discharged s)).track := by
  rw [dischargeEdge_eq, lagDecrement_frame]

/-- Where no overflow is counted, a discharge leaves the Ring Port and the Management Unit. -/
theorem dischargeEdge_quiet (h : (dischargeEdge s).track.counters.overflow = s.track.counters.overflow) :
    (dischargeEdge s).ring = s.ring ∧ (dischargeEdge s).mgmt = s.mgmt := by
  rw [dischargeEdge_track] at h
  rw [dischargeEdge_eq, lagDecrement_frame]
  exact trackDischarge_quiet (s := discharged s) h

/-- The valves that the Tracking Unit's share leaves are those before the discharge. -/
theorem valve_trackDischarge (w : Nat) : (trackDischarge v present (discharged s)).valve w = s.valve w := by
  rw [trackDischarge_frame]
  rfl

theorem valve_dischargeEdge (hv : ValveIn s (carriedValve s)) : (dischargeEdge s).valve (carriedValve s) =
    { s.valve (carriedValve s) with lag := (s.valve (carriedValve s)).lag - 1 } := by
  have hin : ValveIn (trackDischarge (carriedValve s) s.input.pocket.accepted (discharged s)) (carriedValve s) := by
    rw [trackDischarge_frame]
    exact hv
  rw [dischargeEdge_eq, valve_lagDecrement hin, valve_trackDischarge]

theorem valve_dischargeEdge_other {w : Nat} (hw : 1 ≤ w) (hne : w ≠ carriedValve s) :
    (dischargeEdge s).valve w = s.valve w := by
  rw [dischargeEdge_eq, valve_lagDecrement_other hw hne, valve_trackDischarge]

theorem dischargeEdge_noValve (h : carriedValve s = 0) : (dischargeEdge s).dose = s.dose := by
  rw [dischargeEdge_eq, h, lagDecrement_zero, trackDischarge_frame]
  rfl

end

/-- Settles O20: the Input Unit's share, the Tracking Unit's by its cases, and the lag of the valve carried. -/
theorem dischargeAdvancesAndAdmits : Obligations.DischargeAdvancesAndAdmits := by
  intro s since h hf hp
  let u := edgeHeld .discharge true since s
  have htrack : (dischargeEdge u).track =
      (trackDischarge (carriedValve u) s.input.pocket.accepted (discharged u)).track := dischargeEdge_track u
  have hindex : (dischargeEdge u).input.index = (advanceIndex s.dose.valveCount s.input.index).2 := by
    rw [dischargeEdge_frame]
    rfl
  have hcarried : carriedValve u = (advanceIndex s.dose.valveCount s.input.index).1 := rfl
  refine ⟨dischargeEdge u, taken_of_event rfl h (holdTimerEvent_held (i := .discharge) hf hp), ?frame,
    carriedValve u, ?unknown, ?armed, ?next, ?wraps, valve_dischargeEdge (s := u),
    fun w => valve_dischargeEdge_other (s := u), dischargeEdge_noValve (s := u), dischargeEdge_quiet (s := u), ?skips,
    ?admits, ?overflows⟩
  case frame =>
    rw [hindex]
    exact dischargeEdge_frame u
  case unknown => exact fun hi => by rw [hindex, hcarried, hi]; exact ⟨rfl, rfl⟩
  case armed => exact fun hi => by rw [hindex, hcarried, hi]; exact ⟨rfl, rfl⟩
  case next =>
    intro w hi hw
    rw [hindex, hcarried, hi, advanceIndex, if_pos hw]
    exact ⟨rfl, rfl⟩
  case wraps =>
    intro w hi hw
    rw [hindex, hcarried, hi, advanceIndex, if_neg (by omega)]
    exact ⟨rfl, rfl⟩
  case skips =>
    intro hs
    rw [htrack, trackDischarge_skips (s := discharged u) hs]
    rfl
  case admits =>
    intro hl ha hq
    rw [htrack, ha, trackDischarge_admits (s := discharged u) hl hq]
    rfl
  case overflows =>
    intro hl ha hq
    have hover := trackDischarge_overflows (v := carriedValve u) (s := discharged u) hl hq
    have hmgmt : (dischargeEdge u).mgmt = (trackDischarge (carriedValve u) true (discharged u)).mgmt := by
      rw [dischargeEdge_eq, lagDecrement_frame, ← ha]
      rfl
    refine ⟨by rw [htrack, ha, hover, raise_track]; rfl, ?_⟩
    rw [State.latch, hmgmt, hover]
    exact raise_latch _ _

/-! ## The confirm eye (R53, R175) -/

section
variable {s : State} {e : Count}

/-- A window of width `2 * w` from `p - w` on holds a count, on the wrapping count, where the count is that far past its
beginning at most. -/
theorem windowContains_iff (p e : Count) {w : Nat} (hw : w < 2 ^ 30) :
    windowContains (behind p w) (ahead p w) e = decide ((e - (p - BitVec.ofNat 32 w)).toNat ≤ 2 * w) := by
  have hspan : (ahead p w - e).toNat = (2 * w + 2 ^ 32 - (e - behind p w).toNat) % 2 ^ 32 := by
    simp only [ahead, behind]
    bv_omega
  have hlt := (e - behind p w).isLt
  rw [Bool.eq_iff_iff, windowContains, Bool.and_eq_true, reached, atOrBefore, decide_eq_true_iff, decide_eq_true_iff,
    decide_eq_true_iff, hspan]
  change _ ↔ (e - behind p w).toNat ≤ 2 * w
  omega

theorem confirmAt_idle (h : s.track.line = .idle) :
    confirmAt e s = { s with verdict.counters.confirmIdle := s.verdict.counters.confirmIdle + 1 } := by
  simp [confirmAt, h]

theorem confirmAt_unassigned (h : s.track.line = .run) (hc : confirmCandidate s e = none) :
    confirmAt e s = { s with verdict.counters.confirmUnassigned := s.verdict.counters.confirmUnassigned + 1 } := by
  simp [confirmAt, h, hc]

theorem confirmAt_assigned {r : CanRecord} (h : s.track.line = .run) (hc : confirmCandidate s e = some r) :
    confirmAt e s = { s with
      verdict.counters.confirmAssigned := s.verdict.counters.confirmAssigned + 1
      track.queue := updateRecord r.serial (fun r => { r with confirm := some .seen }) s.track.queue } := by
  simp [confirmAt, h, hc, writeRecord]

end

/-- Settles O46. -/
theorem confirmEventAssigned : Obligations.ConfirmEventAssigned := by
  refine ⟨fun s e dk wk hdk hwk hlt => ?candidate, fun s since h hf hp => ?event⟩
  case candidate =>
    simp only [confirmCandidate, hdk, hwk]
    congr 1
    funext r
    cases ha : r.arrival with
    | none => simp only [confirmFits, ha]
    | some a =>
      simp only [confirmFits, ha]
      rw [windowContains_iff _ _ hlt, Bool.and_assoc]
      rfl
  case event =>
    have htake {t : State} (ht : confirmEdge (edgeHeld .confirmEye true since s) = t) : Taken .confirmEvent s t :=
      taken_of_event rfl h ((holdTimerEvent_held (i := .confirmEye) hf hp).trans ht)
    exact ⟨fun hl => htake (confirmAt_idle hl), fun hl hc => htake (confirmAt_unassigned hl hc),
      fun r hl hc => htake (confirmAt_assigned hl hc)⟩

end Sys2Proof.Machine
end

section
/-! PROOFS. Arrivals: the record they match, the stray and the untracked can, the window owner and what the Weighing Engine
is told (R44 to R46, R53, R57, R69, R75, R78 to R82, R94, R97, R98, R107, R178): O24 and O25. -/

namespace Sys2Proof.Machine

/-! ## Records kept but for their weight -/

/-- A write leaves the records of other serials. -/
theorem findRecord_updateRecord_other {n m : Serial} {f : CanRecord → CanRecord} (h : ∀ r, (f r).serial = r.serial)
    (hm : m ≠ n) (q : List CanRecord) : findRecord m (updateRecord n f q) = findRecord m q := by
  induction q with
  | nil => rfl
  | cons r q ih =>
    simp only [findRecord] at ih
    by_cases hr : r.serial = n
    · simp [updateRecord, findRecord, hr, h, Ne.symm hm]
    · simp [updateRecord, findRecord, List.find?_cons, hr, ih]

namespace KeepsRecords

variable {q p o : List CanRecord}

theorem refl (q : List CanRecord) : KeepsRecords q q := fun _ x h => ⟨x, h, rfl⟩

theorem trans (h : KeepsRecords q p) (h' : KeepsRecords p o) : KeepsRecords q o := by
  intro n x hx
  obtain ⟨y, hy, hyx⟩ := h n x hx
  obtain ⟨z, hz, hzy⟩ := h' n y hy
  refine ⟨z, hz, hzy.trans ?_⟩
  rw [hyx]

/-- A write of a weight keeps every record. -/
theorem update {n : Serial} {f : CanRecord → CanRecord} (hf : ∀ r, f r = { r with weight := (f r).weight }) :
    KeepsRecords q (updateRecord n f q) := by
  have hserial (r : CanRecord) : (f r).serial = r.serial := by rw [hf r]
  intro m x hx
  by_cases hm : m = n
  · subst hm
    exact ⟨f x, by rw [findRecord_updateRecord hserial, hx]; rfl, hf x⟩
  · exact ⟨x, by rw [findRecord_updateRecord_other hserial hm, hx], rfl⟩

end KeepsRecords

/-! ## What an arrival may touch -/

/-- An arrival touches the Routine Queue, the Tracking Unit, the Weighing Engine, the Verdict Unit and the Management Unit,
and nothing else. -/
def OnlyArrival (s t : State) : Prop :=
  t = { s with
    ring.routine := t.ring.routine
    track := t.track
    weigh := t.weigh
    verdict := t.verdict
    mgmt := t.mgmt }

theorem OnlyArrival.trans {s t u : State} (h : OnlyArrival s t) (h' : OnlyArrival t u) : OnlyArrival s u := by
  refine Eq.trans h' ?_
  rw [h]

theorem OnlyArrival.input {s t : State} (h : OnlyArrival s t) : t.input = s.input := by rw [h]

theorem OnlyArrival.resetLow {s t : State} (h : OnlyArrival s t) : t.resetLow = s.resetLow := by rw [h]

theorem onlyArrival_track (s : State) (x : TrackingUnit) : OnlyArrival s { s with track := x } := rfl

theorem onlyArrival_raise (l : EventLatch) (s : State) : OnlyArrival s (raise l s) := by
  rw [OnlyArrival, raise_frame]

/-- What telling the Weighing Engine of a can on the platform may touch (R94 to R98, R107): the engine, the weight of a
record, and the frame and counters of a REPLY. -/
structure EngineTold (s t : State) : Prop where
  frame : t = { s with
    ring.routine := t.ring.routine
    track.queue := t.track.queue
    weigh := t.weigh
    mgmt.counters := t.mgmt.counters }
  records : KeepsRecords s.track.queue t.track.queue
  serials : t.track.queue.map CanRecord.serial = s.track.queue.map CanRecord.serial

namespace EngineTold

variable {s t u : State}

/-- A change of the engine alone. -/
theorem engine (s : State) (w : WeighingEngine) : EngineTold s { s with weigh := w } := ⟨rfl, .refl _, rfl⟩

theorem refl (s : State) : EngineTold s s := engine s s.weigh

theorem trans (h : EngineTold s t) (h' : EngineTold t u) : EngineTold s u where
  frame := by
    refine h'.frame.trans ?_
    rw [h.frame]
  records := h.records.trans h'.records
  serials := h'.serials.trans h.serials

/-- A further change of the engine. -/
theorem andEngine (h : EngineTold s t) (w : WeighingEngine) : EngineTold s { t with weigh := w } :=
  h.trans (engine t w)

/-- The owner written before is the owner written after. -/
theorem withOwner (h : EngineTold s t) (o : Option WindowOwner) :
    EngineTold { s with track.owner := o } { t with track.owner := o } where
  frame := by
    have hf := h.frame
    conv_lhs => rw [hf]
  records := h.records
  serials := h.serials

/-- The frame with the Tracking Unit not spelled out. -/
theorem units (h : EngineTold s t) : t = { s with
    ring.routine := t.ring.routine
    track := t.track
    weigh := t.weigh
    mgmt.counters := t.mgmt.counters } := by
  have hf := h.frame
  conv_rhs => rw [hf]
  exact hf

theorem onlyArrival (h : EngineTold s t) : OnlyArrival s t := by
  have hf := h.frame
  rw [OnlyArrival]
  conv_rhs => rw [hf]
  exact hf

/-- The Tracking Unit keeps all but the records' weights. -/
theorem track (h : EngineTold s t) : t.track = { s.track with queue := t.track.queue } := congrArg State.track h.frame

theorem verdict (h : EngineTold s t) : t.verdict = s.verdict := by rw [h.frame]

theorem latch (h : EngineTold s t) (l : EventLatch) : t.latch l = s.latch l := by
  rw [h.frame]
  rfl

theorem length_queue (h : EngineTold s t) : t.track.queue.length = s.track.queue.length := by
  simpa using congrArg List.length h.serials

end EngineTold

/-! ## What the Weighing Engine does with a can on the platform (R94, R95, R97, R98, R107) -/

section
variable {s : State} {n : Serial}

theorem writeWeight_told (n : Serial) (w : WeightResult) (s : State) : EngineTold s (writeWeight n w s) := by
  refine ⟨rfl, .update fun r => ?_, map_serial_updateRecord (fun r => ?_) _⟩ <;> split <;> rfl

/-- A window's result is a write of a weight after the engine's counters have counted it. -/
theorem finishWindow_eq (n : Serial) (q : Quality) (samples : Nat) (sum : Int) (test : Bool) (s : State) :
    ∃ c w, finishWindow n q samples sum test s = writeWeight n w { s with weigh.counters := c } := by
  unfold finishWindow
  dsimp only
  generalize (if q == .good then _ else (0 : Int)) = raw
  split <;> exact ⟨_, _, rfl⟩

/-- A window that ends at once leaves the slot none and the capture as it was. -/
theorem endWindowAtOnce_spec (s : State) :
    EngineTold s (endWindowAtOnce s) ∧ (endWindowAtOnce s).weigh.capture = s.weigh.capture := by
  unfold endWindowAtOnce
  split
  · exact ⟨.refl s, rfl⟩
  all_goals
    obtain ⟨c, w, hw⟩ := finishWindow_eq _ _ _ _ _ { s with weigh.slot := .none }
    rw [hw]
    exact ⟨.trans (.engine s _) (writeWeight_told ..), rfl⟩

theorem appendZeroReply_told (st : Status) (s : State) : EngineTold s (appendZeroReply st s) := by
  have htrack : (appendZeroReply st s).track = s.track := appendReply_track ..
  refine ⟨?_, ?_, ?_⟩
  · rw [htrack, appendZeroReply, appendReply_frame]
  · rw [htrack]
    exact .refl _
  · rw [htrack]

/-- A capture is abandoned, by its own fields only (R107). -/
theorem dropCapture_spec (s : State) : EngineTold s (dropCapture s) ∧ (dropCapture s).weigh.capture = none := by
  unfold dropCapture
  split
  · exact ⟨.engine s _, rfl⟩
  · exact ⟨.refl s, by simpa using ‹¬s.weigh.capture.isSome = true›⟩

theorem engineArrival_capture (h : s.weigh.capture.isSome = true) : engineArrival n s =
    appendZeroReply .zeroAbandoned { dropCapture s with weigh.slot := .pending n false } := if_pos h

theorem engineArrival_empty (h : s.weigh.capture = none) (hs : s.weigh.slot = .none) :
    engineArrival n s = discardTracking { s with weigh.slot := .pending n false } := by
  simp [engineArrival, h, hs]

theorem engineArrival_window (h : s.weigh.capture = none) (hs : s.weigh.slot ≠ .none) :
    engineArrival n s = discardTracking { endWindowAtOnce s with weigh.slot := .pending n true } := by
  cases hslot : s.weigh.slot with
  | none => exact absurd hslot hs
  | pending m overlap => simp [engineArrival, h, hslot]
  | opened w => simp [engineArrival, h, hslot]

/-- An arrival hand-off ends a capture and leaves the slot PENDING for the record, with overlap noted where a window stood
in the slot and no capture ran (R94, R97, R107). -/
theorem engineArrival_spec (n : Serial) (s : State) :
    EngineTold s (engineArrival n s) ∧ (engineArrival n s).weigh.capture = none
      ∧ ∃ overlap, (engineArrival n s).weigh.slot = .pending n overlap
        ∧ (overlap = true ↔ s.weigh.capture = none ∧ s.weigh.slot ≠ .none) := by
  cases hc : s.weigh.capture with
  | some a =>
    obtain ⟨htold, hcapture⟩ := dropCapture_spec s
    rw [engineArrival_capture (by simp [hc])]
    refine ⟨(htold.andEngine _).trans (appendZeroReply_told ..), ?_, false, ?_, by simp⟩
    · rw [appendZeroReply, appendReply_weigh]
      exact hcapture
    · rw [appendZeroReply, appendReply_weigh]
  | none =>
    by_cases hs : s.weigh.slot = .none
    · rw [engineArrival_empty hc hs]
      exact ⟨.engine s _, hc, false, rfl, by simp [hs]⟩
    · obtain ⟨htold, hcapture⟩ := endWindowAtOnce_spec s
      rw [engineArrival_window hc hs]
      exact ⟨htold.andEngine _, hcapture.trans hc, true, rfl, by simp [hs]⟩

theorem engineOpen_spec (s : State) :
    EngineTold s (engineOpen s) ∧ (engineOpen s).weigh.capture = s.weigh.capture := by
  unfold engineOpen
  split
  · exact ⟨.engine s _, rfl⟩
  · exact ⟨.refl s, rfl⟩

theorem engineUntracked_told (s : State) : EngineTold s (engineUntracked s) := by
  unfold engineUntracked
  split
  · exact (dropCapture_spec s).1.trans (appendZeroReply_told ..)
  · exact (endWindowAtOnce_spec s).1.andEngine _

end

/-! ## The window owner (R75, R82) -/

section
variable {s : State} {n : Serial} {e : Count}

/-- A distance below 2^24 ahead of the count is reached only where it is 0. -/
theorem reached_ahead (e : Count) {d : Nat} (h : d < 16777216) : reached e (ahead e d) = (d == 0) := by
  have hd : (e - ahead e d).toNat = (2 ^ 32 - d) % 2 ^ 32 := by
    simp only [ahead]
    bv_omega
  rw [Bool.eq_iff_iff, reached, decide_eq_true_iff, beq_iff_eq, hd]
  omega

/-- The owner that an arrival at count E leaves: opened at once where its open point is reached already (R75, R82). -/
def newOwner (n : Serial) (e : Count) (s : State) : WindowOwner :=
  { ownerAt n e s with opened := reached e (ownerAt n e s).openPoint }

/-- With Lin and Lout set, Lin below 2^24, the points lie ahead of the arrival and the owner is opened only at Lin 0. -/
theorem newOwner_eq {lin lout : Nat} (hin : s.lin = some lin) (hout : s.lout = some lout) (hl : lin < 16777216) :
    newOwner n e s = ⟨n, e + BitVec.ofNat 32 lin, e + BitVec.ofNat 32 lout, lin == 0⟩ := by
  simp only [newOwner, ownerAt, hin, hout, Option.getD_some, reached_ahead e hl]
  rfl

/-- A new owner is handed to the engine, which a window opened at once touches again. -/
theorem becomeOwner_spec (n : Serial) (e : Count) (s : State) :
    EngineTold { s with track.owner := some (newOwner n e s) } (becomeOwner n e s)
      ∧ (becomeOwner n e s).weigh.capture = none
      ∧ ((newOwner n e s).opened = false → ∃ overlap, (becomeOwner n e s).weigh.slot = .pending n overlap
          ∧ (overlap = true ↔ s.weigh.capture = none ∧ s.weigh.slot ≠ .none)) := by
  obtain ⟨htold, hcapture, hslot⟩ := engineArrival_spec n { s with track.owner := some (ownerAt n e s) }
  cases h : reached e (ownerAt n e s).openPoint with
  | false =>
    have hb : becomeOwner n e s = engineArrival n { s with track.owner := some (ownerAt n e s) } := by
      simp [becomeOwner, h]
    have ho : newOwner n e s = ownerAt n e s := by rw [newOwner, h]; rfl
    rw [hb, ho]
    exact ⟨htold, hcapture, fun _ => hslot⟩
  | true =>
    have ho : newOwner n e s = { ownerAt n e s with opened := true } := by rw [newOwner, h]
    have hb : becomeOwner n e s = engineOpen { engineArrival n { s with track.owner := some (ownerAt n e s) } with
        track.owner := some (newOwner n e s) } := by
      simp [becomeOwner, h, openOwner, ho]
    obtain ⟨hopen, hkept⟩ := engineOpen_spec
      { engineArrival n { s with track.owner := some (ownerAt n e s) } with track.owner := some (newOwner n e s) }
    rw [hb]
    exact ⟨(htold.withOwner _).trans hopen, hkept.trans hcapture, fun hfalse => by simp [ho] at hfalse⟩

end

/-! ## Posts to the stop latch (R55, R177) -/

section
variable {s : State} {c : Cause}

/-- A cause held in the stop latch and its post counted, STOP_SET apart. -/
def posted (c : Cause) (s : State) : State :=
  { s with verdict.stopLatch := s.verdict.stopLatch.add c, verdict.counters := s.verdict.counters.post c }

theorem postCause_empty (h : s.verdict.stopLatch.isEmpty = true) : postCause c s = raise .stopSet (posted c s) := by
  simp [postCause, posted, h]

theorem postCause_held (h : s.verdict.stopLatch.isEmpty = false) : postCause c s = posted c s := by
  simp [postCause, posted, h]

/-- A post touches the Verdict Unit and what raising a latch touches. -/
theorem postCause_frame (c : Cause) (s : State) : postCause c s = { posted c s with
    ring.routine := (postCause c s).ring.routine
    mgmt := (postCause c s).mgmt } := by
  cases h : s.verdict.stopLatch.isEmpty with
  | true => rw [postCause_empty h, raise_frame]
  | false => rw [postCause_held h]

theorem postCause_onlyArrival (c : Cause) (s : State) : OnlyArrival s (postCause c s) := by
  rw [OnlyArrival, postCause_frame]
  rfl

theorem isEmpty_add (l : StopLatch) (c : Cause) : (l.add c).isEmpty = false := by
  cases c <;> simp [StopLatch.add, StopLatch.isEmpty]

end

/-! ## Arrivals by their cases (R78, R80, R81) -/

section
variable {s : State} {e : Count} {r : CanRecord}

/-- The matched record written, its distance learned and the lost-run count ended (R78, R69, R178). -/
def matchTaken (r : CanRecord) (e : Count) (s : State) : State :=
  { s with
    track.queue := updateRecord r.serial (fun r => { r with eye := .arrived, arrival := some e }) s.track.queue
    track.learned := learn (e - r.origin).toNat s.track.learned
    verdict.lostRun := 0 }

/-- The stray record inserted, counted and raised (R80). -/
def strayTaken (e : Count) (s : State) : State :=
  raise .strayCan { s with
    track.queue := insertByOrigin (strayRecord e s) s.track.queue
    track.nextSerial := s.serialToGive + 1
    track.counters.strays := s.track.counters.strays + 1 }

/-- The untracked stray posted, raised and counted (R81). -/
def untrackedTaken (s : State) : State :=
  { raise .strayCan (postCause .strayNoRoom s) with track.untracked := s.track.untracked + 1 }

theorem trackArrival_idle (h : s.track.line = .idle) : trackArrival e s = s := by simp [trackArrival, h]

theorem trackArrival_matched (h : s.track.line = .run) (hm : matchingRecord s e = some r) :
    trackArrival e s = becomeOwner r.serial e (matchTaken r e s) := by
  simp only [trackArrival, h, hm]
  rfl

theorem trackArrival_stray (h : s.track.line = .run) (hm : matchingRecord s e = none)
    (hq : s.track.queue.length < 128) :
    trackArrival e s = becomeOwner s.serialToGive e (strayTaken e s) := by
  simp only [trackArrival, h, hm, Config.trackingCapacity, hq, if_true]
  rfl

theorem trackArrival_untracked (h : s.track.line = .run) (hm : matchingRecord s e = none)
    (hq : 128 ≤ s.track.queue.length) :
    trackArrival e s = { engineUntracked (untrackedTaken s) with track.owner := none } := by
  have huntracked : (raise .strayCan (postCause .strayNoRoom s)).track.untracked = s.track.untracked := by
    rw [raise_track, postCause_frame]
    rfl
  simp only [trackArrival, h, hm, Config.trackingCapacity, Nat.not_lt.mpr hq, if_false, untrackedArrival, huntracked,
    untrackedTaken]

/-- The Tracking Unit's own write of a stray, under the latch that it raises. -/
theorem strayTaken_track (e : Count) (s : State) : (strayTaken e s).track = { s.track with
    queue := insertByOrigin (strayRecord e s) s.track.queue
    nextSerial := s.serialToGive + 1
    counters.strays := s.track.counters.strays + 1 } := by
  rw [strayTaken, raise_track]

theorem untrackedTaken_track (s : State) :
    (untrackedTaken s).track = { s.track with untracked := s.track.untracked + 1 } := by
  rw [untrackedTaken, raise_track, postCause_frame]
  rfl

theorem untrackedTaken_verdict (s : State) : (untrackedTaken s).verdict = (posted .strayNoRoom s).verdict := by
  rw [untrackedTaken, raise_verdict, postCause_frame]

theorem newOwner_strayTaken (n : Serial) (e : Count) (s : State) : newOwner n e (strayTaken e s) = newOwner n e s := by
  simp only [newOwner, ownerAt, State.lin, State.lout, State.distance, strayTaken_track]

/-- A stray becomes the owner as a matched record does (R82). -/
theorem trackArrival_stray_told (h : s.track.line = .run) (hm : matchingRecord s e = none)
    (hq : s.track.queue.length < 128) :
    EngineTold { strayTaken e s with track.owner := some (newOwner s.serialToGive e s) } (trackArrival e s) := by
  rw [trackArrival_stray h hm hq, ← newOwner_strayTaken]
  exact (becomeOwner_spec ..).1

/-- An untracked stray clears the owner (R81). -/
theorem trackArrival_untracked_told (h : s.track.line = .run) (hm : matchingRecord s e = none)
    (hq : 128 ≤ s.track.queue.length) :
    EngineTold { untrackedTaken s with track.owner := none } (trackArrival e s) := by
  rw [trackArrival_untracked h hm hq]
  exact (engineUntracked_told _).withOwner none

/-- A stray raises STRAY_CAN, takes its serial and a place in the queue, and owns the window (R80, R82). -/
theorem trackArrival_stray_spec (h : s.track.line = .run) (hm : matchingRecord s e = none)
    (hq : s.track.queue.length < 128) {t : State} (ht : trackArrival e s = t) :
    t.latch .strayCan = true ∧ t.verdict = s.verdict
      ∧ t.track = { s.track with
          queue := t.track.queue
          nextSerial := s.serialToGive + 1
          counters.strays := s.track.counters.strays + 1
          owner := some (newOwner s.serialToGive e s) }
      ∧ KeepsRecords (insertByOrigin (strayRecord e s) s.track.queue) t.track.queue
      ∧ t.track.queue.length = s.track.queue.length + 1 := by
  have htold := trackArrival_stray_told h hm hq
  have hqueue : (strayTaken e s).track.queue = insertByOrigin (strayRecord e s) s.track.queue := by
    rw [strayTaken_track]
  rw [ht] at htold
  refine ⟨(htold.latch .strayCan).trans (raise_latch _ _), htold.verdict.trans (raise_verdict _ _), ?track,
    hqueue ▸ htold.records, ?length⟩
  case track => simpa only [strayTaken_track] using htold.track
  case length => rw [htold.length_queue, hqueue, length_insertByOrigin]

/-- An untracked stray posts STRAY_NO_ROOM, raises STRAY_CAN, is counted and clears the owner (R81). -/
theorem trackArrival_untracked_spec (h : s.track.line = .run) (hm : matchingRecord s e = none)
    (hq : 128 ≤ s.track.queue.length) {t : State} (ht : trackArrival e s = t) :
    t.latch .strayCan = true ∧ t.verdict = (posted .strayNoRoom s).verdict
      ∧ t.track = { s.track with queue := t.track.queue, untracked := s.track.untracked + 1, owner := none }
      ∧ KeepsRecords s.track.queue t.track.queue ∧ t.track.queue.length = s.track.queue.length := by
  have htold := trackArrival_untracked_told h hm hq
  have hqueue : (untrackedTaken s).track.queue = s.track.queue := by rw [untrackedTaken_track]
  rw [ht] at htold
  refine ⟨(htold.latch .strayCan).trans (raise_latch _ _), htold.verdict.trans (untrackedTaken_verdict s), ?track,
    hqueue ▸ htold.records, ?length⟩
  case track => simpa only [untrackedTaken_track] using htold.track
  case length => rw [htold.length_queue, hqueue]

/-- What the Tracking Unit may touch at an arrival. -/
theorem trackArrival_onlyArrival (e : Count) (s : State) : OnlyArrival s (trackArrival e s) := by
  have howner (n : Serial) (u : State) (h : OnlyArrival s u) : OnlyArrival s (becomeOwner n e u) :=
    h.trans ((onlyArrival_track u _).trans (becomeOwner_spec n e u).1.onlyArrival)
  cases hl : s.track.line with
  | idle =>
    rw [trackArrival_idle hl]
    rfl
  | run =>
    cases hm : matchingRecord s e with
    | some r =>
      rw [trackArrival_matched hl hm]
      exact howner _ _ rfl
    | none =>
      rcases Nat.lt_or_ge s.track.queue.length 128 with hq | hq
      · rw [trackArrival_stray hl hm hq]
        exact howner _ _ ((onlyArrival_track s _).trans (onlyArrival_raise _ _))
      · rw [trackArrival_untracked hl hm hq]
        have htaken : OnlyArrival s (untrackedTaken s) :=
          ((postCause_onlyArrival _ s).trans (onlyArrival_raise _ _)).trans (onlyArrival_track _ _)
        exact (htaken.trans (engineUntracked_told _).onlyArrival).trans (onlyArrival_track _ _)

end

/-! ## The command ARRIVAL (R46, R53, R79) -/

section
variable {s : State} {since eye pair : Ticks} {a b : Bool}

/-- An arrival is counted, and taken at the count of its edge (R46, R53). -/
def arrivalCounted (since : Ticks) (s : State) : State :=
  { edgeHeld .platformEye true since s with input.counters.arrivals := s.input.counters.arrivals + 1 }

theorem taken_arrival (h : Awake s) (hf : s.input.platformEye.filter = .changing since)
    (hp : s.input.platformEye.pin = true) {t : State}
    (ht : trackArrival s.input.count (arrivalCounted since s) = t) : Taken (.arrival false) s t :=
  taken_of_event rfl h ((holdTimerEvent_held (i := .platformEye) hf hp).trans ht)

theorem advanceTo_past {t : Ticks} (h : t ≤ s.now) : advanceTo t s = s := by simp [advanceTo, h]

/-- A hold timer taken at a clock that its due time has passed leaves the clock. -/
theorem taken_arrival_past (h : Awake s) (hf : s.input.platformEye.filter = .changing since)
    (hp : s.input.platformEye.pin = true) (hd : since + 8 * s.input.platformEye.time ≤ s.now) :
    Taken (.arrival false) s (acceptInput .platformEye s) := by
  refine taken_of_event rfl h ?_
  simp [arrivalEvent, holdTimerEvent, InputUnit.filterOf, hf, hp, filterTicks_eq, advanceTo_past hd]

/-- The clock at the due times of an encoder step and of the arrival that falls together with it. -/
def bothDue (eye pair : Ticks) (s : State) : State :=
  { s with now := max (max s.now (pair + 8 * s.input.encoder.time)) (eye + 8 * s.input.platformEye.time) }

/-- The arrival is taken after the step's count and before the step is delivered (R46, R79). -/
theorem taken_arrivalWithStep (h : Awake s) (hf : s.input.platformEye.filter = .changing eye)
    (hp : s.input.platformEye.pin = true) (he : s.input.encoder.filter = .changing pair)
    {step : Option Direction} {u : State} (hc : countStep (bothDue eye pair s) = (step, u)) :
    Taken (.arrival true) s (deliverStep step (acceptInput .platformEye u)) := by
  have hdue : advanceTo (eye + filterTicks s.input.platformEye.time)
      (advanceTo (pair + filterTicks s.input.encoder.time) s) = bothDue eye pair s := by
    simp only [filterTicks_eq]
    rfl
  refine taken_of_event rfl h ?_
  simp [arrivalEvent, arrivalWithStep, hf, hp, he, hdue, hc]

/-- An arrival leaves the count of encoder errors. -/
theorem acceptInput_encoderErrors (hp : s.input.platformEye.pin = true) :
    (acceptInput .platformEye s).input.counters.encoderErrors = s.input.counters.encoderErrors := by
  rw [acceptInput_eq, InputUnit.filterOf, hp, deliverEdge, arrivalEdge, (trackArrival_onlyArrival _ _).input]
  rfl

end

/-- Settles O24: an arrival with a step by the step's direction, a matched one by what its new owner tells the engine. -/
theorem arrivalMatchesOldestExpected : Obligations.ArrivalMatchesOldestExpected := by
  refine ⟨fun s eye pair a b h hf hp he ha => ⟨fun hn => ?forward, fun hn => ?reverse, fun hn => ?illegal⟩,
    fun s since r lin lout h hf hp hl _ hm hin hout hlt => ?matched⟩
  case forward =>
    exact ⟨_, taken_arrival_past h hf hp (le_max_right ..),
      taken_arrivalWithStep h hf hp he (countStep_forward (s := bothDue eye pair s) ha hn)⟩
  case reverse =>
    have htaken := taken_arrivalWithStep h hf hp he (countStep_reverse (s := bothDue eye pair s) ha hn)
    rw [deliverStep, positionEvent_reverse] at htaken
    exact ⟨_, taken_arrival_past h hf hp (le_max_right ..), htaken⟩
  case illegal =>
    have htaken := taken_arrivalWithStep h hf hp he (countStep_illegal (s := bothDue eye pair s) ha hn)
    rw [deliverStep, acceptInput_encoderErrors (s := pairAccepted (bothDue eye pair s)) hp] at htaken
    exact ⟨_, taken_arrival_past h hf hp (le_max_right ..), htaken⟩
  case matched =>
    let u := matchTaken r s.input.count (arrivalCounted since s)
    have htake : Taken (.arrival false) s (becomeOwner r.serial s.input.count u) :=
      taken_arrival h hf hp (trackArrival_matched (s := arrivalCounted since s) hl hm)
    obtain ⟨htold, hcapture, hslot⟩ := becomeOwner_spec r.serial s.input.count u
    rw [newOwner_eq (s := u) hin hout hlt] at htold hslot
    generalize becomeOwner r.serial s.input.count u = t at htold hcapture hslot htake
    have htrack : t.track = { s.track with
        queue := t.track.queue
        learned := learn (s.input.count - r.origin).toNat s.track.learned
        owner := some
          ⟨r.serial, s.input.count + BitVec.ofNat 32 lin, s.input.count + BitVec.ofNat 32 lout, lin == 0⟩ } :=
      htold.track
    refine ⟨t, htake, htold.units, htold.records, ?serials, ?_, ?_, ?_, ?_, ?_, ?_, fun hne => ?slot, hcapture⟩
    case serials => exact htold.serials.trans (map_serial_updateRecord (by intro; rfl) s.track.queue)
    case slot => exact hslot (by simpa using hne)
    all_goals rw [htrack]

/-- Settles O25: in IDLE the edge alone; in RUN a stray or an untracked can, by the room in the queue. -/
theorem unmatchedArrivalIsStray : Obligations.UnmatchedArrivalIsStray := by
  refine ⟨fun s since h hf hp hl => taken_arrival h hf hp (trackArrival_idle hl), fun s since h hf hp hl hm => ?_⟩
  obtain ⟨t, ht⟩ : ∃ t, trackArrival s.input.count (arrivalCounted since s) = t := ⟨_, rfl⟩
  have honly : OnlyArrival (arrivalCounted since s) t := ht ▸ trackArrival_onlyArrival _ _
  refine ⟨t, taken_arrival h hf hp ht, honly, ?_⟩
  rcases Nat.lt_or_ge s.track.queue.length 128 with hq | hq
  · obtain ⟨hlatch, hverdict, htrack, hrecords, hlength⟩ :=
      trackArrival_stray_spec (s := arrivalCounted since s) hl hm hq ht
    have howner : t.track.owner = some (newOwner s.serialToGive s.input.count s) := (congrArg (·.owner) htrack :)
    refine ⟨hlatch, (congrArg (·.learned) htrack :), (congrArg (·.lostRun) hverdict :), fun _ =>
      ⟨hlength, (congrArg (·.counters) htrack :), (congrArg (·.untracked) htrack :), hverdict, ⟨_, howner, rfl⟩,
        fun lin lout hin hout hlt => ?_, (congrArg (·.nextSerial) htrack :), hrecords⟩, fun hge => absurd hq (by omega)⟩
    rw [howner, newOwner_eq hin hout hlt]
  · obtain ⟨hlatch, hverdict, htrack, hrecords, hlength⟩ :=
      trackArrival_untracked_spec (s := arrivalCounted since s) hl hm hq ht
    refine ⟨hlatch, (congrArg (·.learned) htrack :), (congrArg (·.lostRun) hverdict :), fun hlt => absurd hq (by omega),
      fun _ => ⟨hrecords, hlength, (congrArg (·.counters) htrack :), (congrArg (·.nextSerial) htrack :),
        (congrArg (·.untracked) htrack :), (congrArg (·.owner) htrack :), (congrArg (·.stopLatch) hverdict :), ?_⟩⟩
    have hreset : t.resetLow = false := honly.resetLow.trans h
    rw [State.stopOn, hreset, hverdict, posted, isEmpty_add]
    rfl

end Sys2Proof.Machine
end

section
/-! PROOFS. The expiry of an exchange timer and of the reject pulse, STOP REQUEST, CLEAR STOP, CLEAR EVENTS and CLEAR
COUNTERS (R54, R55, R165, R174, R177, R179, R190, R191): O41 and O53. -/

namespace Sys2Proof.Machine

/-! ## Timers that expire (R165, R174) -/

section
variable {s : State} {v : Nat} {due : Ticks}

@[simp] theorem valve_raise (l : EventLatch) (w : Nat) (s : State) : (raise l s).valve w = s.valve w := by
  simp [State.valve]

/-- The entry of a valve whose exchange timer has expired (R165). -/
def Valve.timedOut (x : Valve) : Valve :=
  { x with
    state := .fault, pendingTrim := none, exchange := none, timer := none,
    counters.timeouts := x.counters.timeouts + 1 }

theorem exchangeTimeoutEvent_due (h : (s.valve v).timer = some due) :
    exchangeTimeoutEvent v s = raise .valveFault (modifyValve v Valve.timedOut (advanceTo due s)) := by
  simp only [exchangeTimeoutEvent, h]
  rfl

/-- A change of one valve under a latch touches no other valve, and nothing else but what raising a latch touches. -/
theorem raise_modifyValve_spec (l : EventLatch) (f : Valve → Valve) (h1 : 1 ≤ v) (hl : v ≤ s.dose.valves.length) :
    (raise l (modifyValve v f s)).valve v = f (s.valve v) ∧ OnlyValve v s (raise l (modifyValve v f s)) := by
  refine ⟨?self, ?frame, fun w hw hne => ?others⟩
  case self => rw [valve_raise, valve_modifyValve v v f s h1 h1 hl, if_pos rfl]
  case frame =>
    rw [raise_track, raise_dose]
    exact raise_frame l _
  case others => rw [valve_raise, valve_modifyValve v w f s h1 hw hl, if_neg hne]

theorem rejectPulseEvent_due (h : s.verdict.pulse = some due) :
    rejectPulseEvent s = { s with now := max s.now due, verdict.pulse := none } := by
  simp only [rejectPulseEvent, h]
  rfl

end

/-- Settles O41. -/
theorem exchangeAndPulseExpire : Obligations.ExchangeAndPulseExpire := by
  refine ⟨fun s valve due h hlen h1 h48 ht => ?exchange, fun s due h hp => ?pulse⟩
  case exchange =>
    obtain ⟨hself, honly⟩ := raise_modifyValve_spec (s := advanceTo due s) .valveFault Valve.timedOut h1
      (by rw [advanceTo_dose]; omega)
    have htake : Taken (.exchangeTimeout valve) s
        (raise .valveFault (modifyValve valve.toNat Valve.timedOut (advanceTo due s))) := by
      refine taken_of_event rfl h ?_
      rw [if_pos (by simp [h1, h48, Config.valves]), exchangeTimeoutEvent_due ht]
    refine ⟨_, htake, ?now, hself, raise_latch _ _, ?track, ?counters, honly⟩
    case now => rw [raise_now]; rfl
    case track => rw [raise_track]; rfl
    case counters => rw [raise_dose]; rfl
  case pulse =>
    refine ⟨_, taken_of_event rfl h (rejectPulseEvent_due hp), rfl, ?_⟩
    simp [State.rejectOn]

/-! ## STOP REQUEST, CLEAR STOP, CLEAR EVENTS and CLEAR COUNTERS (R177, R179, R190, R191) -/

/-- STOP is on after a post, while RESET is high (R55, R177). -/
theorem stopOn_postCause (c : Cause) {s : State} (h : Awake s) : (postCause c s).stopOn = true := by
  have hreset : (posted c s).resetLow = false := h
  have hlatch : (posted c s).verdict.stopLatch.isEmpty = false := isEmpty_add _ c
  rw [postCause_frame, State.stopOn, hreset, hlatch]
  rfl

/-- Settles O53. -/
theorem stopLatchEventsAndCountersClear : Obligations.StopLatchEventsAndCountersClear := by
  refine ⟨fun s h => ⟨⟨postCause .requested (counted s), taken_of_request (perform := actStopRequest) rfl h rfl, ?post,
      stopOn_postCause _ h.1, fun he => ?stopSet, fun he => ?held, ?track⟩, ?clearStop⟩,
    fun s h => ⟨fun set => ?clearEvents, ?clearCounters⟩⟩
  case post =>
    rw [postCause_frame]
    rfl
  case stopSet =>
    rw [postCause_empty (s := counted s) he]
    exact raise_latch _ _
  case held =>
    rw [postCause_held (s := counted s) he]
    rfl
  case track =>
    rw [postCause_frame]
    rfl
  case clearStop =>
    refine ⟨_, taken_of_request (perform := actClearStop) rfl h rfl, rfl, ?_⟩
    simp [State.stopOn, StopLatch.isEmpty]
  case clearEvents => exact taken_of_request (perform := actClearEvents set) rfl h rfl
  case clearCounters =>
    exact ⟨_, taken_of_request (perform := actClearCounters) rfl h rfl, rfl, rfl, rfl, rfl, rfl, rfl, rfl, rfl, rfl,
      rfl, rfl⟩

end Sys2Proof.Machine
end

section
/-! PROOFS. TABLE WRITES of one SETTINGS entry: the valve count, and the settings of the Input Unit, the Weighing Engine and
the lot string (R41, R43, R49, R92, R103, R110, R115, R120, R150, R186, R188): O50 and O51. -/

namespace Sys2Proof.Machine

/-! ## A command that writes one setting (R186, R188) -/

/-- The command c is the supervisor's write of the one SETTINGS entry i. -/
abbrev WritesSetting (c : Instr) (i : Byte) (e : BitVec 64) : Prop :=
  WritesEntry c 2 refuseSettings storeSettings i (leBytes 8 e.toNat)

section
variable {c : Instr} {i : Byte} {e : BitVec 64} {s : State}

theorem writesSetting (hc : ∀ s, exec c s = event (takeRequest 0 kindTableWrite
    (writeSettings i 1 (leBytes 8 e.toNat))) s) (hi : i.toNat ≤ 23) : WritesSetting c i e :=
  ⟨hc, _, rfl, length_leBytes 8 _, Nat.zero_le _, hi⟩

theorem taken_settingStored (hw : WritesSetting c i e) (h : Listening s)
    (hr : settingRefusal (counted s) (i.toNat, leBytes 8 e.toNat) = none) {t : State}
    (ht : storeSetting (i.toNat, leBytes 8 e.toNat) (counted s) = t) : Taken c s (wroteReply 2 i 1 t) :=
  taken_of_stored hw h (firstRefusal_passes hr) ht

theorem taken_settingRefused (hw : WritesSetting c i e) (h : Listening s) {st : Status}
    (hr : settingRefusal (counted s) (i.toNat, leBytes 8 e.toNat) = some st) :
    Taken c s (refusedReply st i 2 i 1 (counted s)) :=
  taken_of_refused hw h (firstRefusal_refuses hr)

end

section
variable {lo hi v : Int} {s : State}

theorem between_inside (hlo : lo ≤ v) (hhi : v ≤ hi) : between lo hi v = true := by simp [between, hlo, hhi]

theorem between_outside (h : v < lo ∨ hi < v) : between lo hi v = false := by
  rw [between, Bool.and_eq_false_iff, decide_eq_false_iff_not, decide_eq_false_iff_not]
  omega

theorem valueTest_inside (hlo : lo ≤ v) (hhi : v ≤ hi) : valueTest (between lo hi v) = none := by
  rw [between_inside hlo hhi]
  rfl

theorem valueTest_outside (h : v < lo ∨ hi < v) : valueTest (between lo hi v) = some .badValue := by
  rw [between_outside h]
  rfl

theorem idleOnly_run (h : s.track.line = .run) (rest : Option Status) : idleOnly s rest = some .inUse := by
  simp [idleOnly, h]

theorem idleOnly_idle (h : s.track.line = .idle) (rest : Option Status) : idleOnly s rest = rest := by
  simp [idleOnly, h]

end

/-! ## The valve count (R49, R150) -/

section
variable {s : State} {n : Nat}

/-- The valves that a smaller count leaves above it (R150). -/
theorem any_leavingValves (h : s.dose.valveCount ≤ 48) (p : Nat → Bool) :
    (leavingValves s n).any p = true ↔ ∃ v, n < v ∧ v ≤ s.dose.valveCount ∧ p v = true := by
  simp only [leavingValves, List.any_eq_true, List.mem_filter, List.mem_range, Bool.and_eq_true, decide_eq_true_iff,
    Config.valves]
  exact ⟨fun ⟨v, ⟨_, hn, hv⟩, hp⟩ => ⟨v, hn, hv, hp⟩, fun ⟨v, hn, hv, hp⟩ => ⟨v, ⟨by omega, hn, hv⟩, hp⟩⟩

theorem valveCountRefusal_busy (h : s.dose.valveCount ≤ 48) {v : Nat} (hn : n < v) (hv : v ≤ s.dose.valveCount)
    (hx : (s.valve v).state.inExchange = true) : valveCountRefusal s n = some .busy :=
  if_pos ((any_leavingValves h _).mpr ⟨v, hn, hv, hx⟩)

theorem not_leaving_inExchange (h : s.dose.valveCount ≤ 48)
    (hx : ∀ v, n < v → v ≤ s.dose.valveCount → (s.valve v).state.inExchange = false) :
    ¬(leavingValves s n).any (fun v => (s.valve v).state.inExchange) = true := by
  rw [any_leavingValves h]
  rintro ⟨v, hn, hv, hb⟩
  rw [hx v hn hv] at hb
  cases hb

theorem valveCountRefusal_inUse (h : s.dose.valveCount ≤ 48)
    (hx : ∀ v, n < v → v ≤ s.dose.valveCount → (s.valve v).state.inExchange = false)
    {v : Nat} (hn : n < v) (hv : v ≤ s.dose.valveCount)
    (hs : (s.valve v).state = .lockedOut ∨ (s.valve v).state = .fault) : valveCountRefusal s n = some .inUse := by
  rw [valveCountRefusal, if_neg (not_leaving_inExchange h hx),
    if_pos ((any_leavingValves h _).mpr ⟨v, hn, hv, by simpa using hs⟩)]

theorem valveCountRefusal_none (h : s.dose.valveCount ≤ 48)
    (hx : ∀ v, n < v → v ≤ s.dose.valveCount →
      (s.valve v).state = .disabled ∨ (s.valve v).state = .regulating ∨ (s.valve v).state = .hold) :
    valveCountRefusal s n = none := by
  have hexchange : ∀ v, n < v → v ≤ s.dose.valveCount → (s.valve v).state.inExchange = false := by
    intro v hn hv
    rcases hx v hn hv with hs | hs | hs <;> rw [hs] <;> rfl
  have hlocked : ¬(leavingValves s n).any
      (fun v => (s.valve v).state == .lockedOut || (s.valve v).state == .fault) = true := by
    rw [any_leavingValves h]
    rintro ⟨v, hn, hv, hb⟩
    rcases hx v hn hv with hs | hs | hs <;> simp [hs] at hb
  rw [valveCountRefusal, if_neg (not_leaving_inExchange h hexchange), if_neg hlocked]

theorem storeValveCount_same (h : n = s.dose.valveCount) : storeValveCount n s = s := by simp [storeValveCount, h]

theorem storeValveCount_changed (h : n ≠ s.dose.valveCount) : storeValveCount n s = { s with
    dose.valveCount := n
    dose.valves := s.dose.valves.mapIdx (fun i x => x.onCount s.dose.valveCount n s.activeLag (i + 1))
    input.index := .unknown } := by
  simp [storeValveCount, h]

/-- Each valve after a changed count, by its number (R150, log 27). -/
theorem valve_storeValveCount (h : n ≠ s.dose.valveCount) {v : Nat} (h1 : 1 ≤ v) (hl : v ≤ s.dose.valves.length) :
    (storeValveCount n s).valve v = (s.valve v).onCount s.dose.valveCount n s.activeLag v := by
  have hlt : v - 1 < s.dose.valves.length := by omega
  rw [storeValveCount_changed h]
  simp [State.valve, List.getD_eq_getElem?_getD, hlt, show v - 1 + 1 = v by omega]

/-- The test of the valve count entry: the state's before the value's (log 13). -/
theorem settingRefusal_valveCount (s : State) (e : BitVec 64) : settingRefusal s (2, leBytes 8 e.toNat) =
    idleOnly s (if between 8 48 e.toInt then valveCountRefusal s e.toInt.toNat else some .badValue) := by
  simp only [settingRefusal, leInt_leBytes64]

theorem storeSetting_valveCount (s : State) (e : BitVec 64) :
    storeSetting (2, leBytes 8 e.toNat) s = storeValveCount e.toInt.toNat s := by
  simp only [storeSetting, leInt_leBytes64]

end

/-- Settles O50, in the order of the entry's tests. -/
theorem valveCountWritten : Obligations.ValveCountWritten := by
  intro s e h
  have hw : WritesSetting (.valveCountWrite 0 e) 2 e := writesSetting (fun _ => rfl) (by decide)
  have hrefused {st : Status} (hl : s.track.line = .idle)
      (hr : (if between 8 48 e.toInt then valveCountRefusal (counted s) e.toInt.toNat else some .badValue) = some st) :
      Taken (.valveCountWrite 0 e) s (refusedReply st 2 2 2 1 (counted s)) :=
    taken_settingRefused hw h
      ((settingRefusal_valveCount _ e).trans ((idleOnly_idle (s := counted s) hl _).trans hr))
  refine ⟨fun hl => ?run, fun hl hout => ?badValue, fun hl h8 h48 hc hlen => ?inRange⟩
  case run =>
    exact taken_settingRefused hw h ((settingRefusal_valveCount _ e).trans (idleOnly_run (s := counted s) hl _))
  case badValue => exact hrefused hl (by rw [between_outside hout]; rfl)
  case inRange =>
    obtain ⟨n, hn⟩ : ∃ n : Nat, e.toInt = n := ⟨e.toInt.toNat, by omega⟩
    have hin : between 8 48 (n : Int) = true := between_inside (hn ▸ h8) (hn ▸ h48)
    have hstored {t : State} (hr : valveCountRefusal (counted s) n = none)
        (ht : storeValveCount n (counted s) = t) : Taken (.valveCountWrite 0 e) s (wroteReply 2 2 1 t) := by
      refine taken_settingStored hw h ?_ ((storeSetting_valveCount _ e).trans (by rw [hn]; exact ht))
      refine (settingRefusal_valveCount _ e).trans ((idleOnly_idle (s := counted s) hl _).trans ?_)
      rw [hn, if_pos hin]
      exact hr
    simp only [hn, Int.toNat_natCast, hin, if_true, Nat.cast_lt, Nat.cast_le, Nat.cast_inj, ne_eq] at hrefused ⊢
    refine ⟨?busy, ?inUse, ?changed, ?same⟩
    case busy =>
      rintro ⟨v, hv, hle, hx⟩
      exact hrefused hl (valveCountRefusal_busy (s := counted s) hc hv hle hx)
    case inUse =>
      rintro hx ⟨v, hv, hle, hs⟩
      exact hrefused hl (valveCountRefusal_inUse (s := counted s) hc hx hv hle hs)
    case changed =>
      intro hx hne
      have hread {v : Nat} (h1 : 1 ≤ v) (hv : v ≤ 48) : (storeValveCount n (counted s)).valve v =
          (s.valve v).onCount s.dose.valveCount n s.activeLag v :=
        valve_storeValveCount (s := counted s) hne h1 (by rw [counted_dose]; omega)
      refine ⟨_, hstored (valveCountRefusal_none (s := counted s) hc hx) rfl, ?frame, fun v h1 hv => ?valve⟩
      case frame => rw [storeValveCount_changed (s := counted s) hne]
      case valve =>
        rw [hread h1 hv, Valve.onCount]
        refine ⟨fun hlt => if_pos hlt, fun hlt hle => ?_, fun hle hle' => ?_⟩
        · rw [if_neg (by omega), if_pos hlt]
        · rw [if_neg (by omega), if_neg (by omega)]
    case same =>
      intro he
      have hnone (v : Nat) (hlt : n < v) : ¬v ≤ s.dose.valveCount := by omega
      exact hstored (valveCountRefusal_none (s := counted s) hc fun v hlt hle => absurd hle (hnone v hlt))
        (storeValveCount_same (s := counted s) he)

/-! ## The settings of the Input Unit (R41, R43) -/

section
variable {s : State} {i : Input} {us : Nat} {since : Ticks}

theorem storeInputTime_stable (hf : (s.input.filterOf i).filter = .stable) :
    storeInputTime i us s = modifyFilter i (fun f => { f with time := us }) s := by
  simp [storeInputTime, hf]

theorem storeInputTime_waits (hf : (s.input.filterOf i).filter = .changing since) (h : s.now < since + 8 * us) :
    storeInputTime i us s = modifyFilter i (fun f => { f with time := us }) s := by
  simp [storeInputTime, hf, filterTicks_eq, Nat.not_le.mpr h]

/-- A change that has run as long as the stored time is accepted at the write (R41). -/
theorem storeInputTime_accepts (hf : (s.input.filterOf i).filter = .changing since) (h : since + 8 * us ≤ s.now) :
    storeInputTime i us s = deliverEdge i (s.input.filterOf i).pin
      (modifyFilter i (fun f => { f with accepted := f.pin, filter := .stable })
        (modifyFilter i (fun f => { f with time := us }) s)) := by
  simp [storeInputTime, hf, filterTicks_eq, h, acceptInput_eq]

theorem storeEncoderTime_stable (hf : s.input.encoder.filter = .stable) :
    storeEncoderTime us s = { s with input.encoder.time := us } := by
  simp only [storeEncoderTime, hf]

theorem storeEncoderTime_waits (hf : s.input.encoder.filter = .changing since) (h : s.now < since + 8 * us) :
    storeEncoderTime us s = { s with input.encoder.time := us } := by
  simp only [storeEncoderTime, hf, filterTicks_eq, if_neg (Nat.not_le.mpr h)]

theorem storeEncoderTime_accepts (hf : s.input.encoder.filter = .changing since) (h : since + 8 * us ≤ s.now) :
    storeEncoderTime us s = acceptPair { s with input.encoder.time := us } := by
  simp only [storeEncoderTime, hf, filterTicks_eq, if_pos h]

end

/-! ## The settings of the Weighing Engine and the lot string (R92, R115, R120) -/

section
variable {s : State} {rate : Nat} {since : Ticks}

theorem storeSampleRate_stopped (h : s.weigh.lossTimer = none) :
    storeSampleRate rate s = { s with weigh.sampleRate := rate } := by
  simp only [storeSampleRate, h]

/-- The loss time at a rate, four sample periods, rounded up to a clock unit (R91, log 2). -/
theorem lossTicks_eq (rate : Nat) : lossTicks rate = (4 * 8000000 + (rate - 1)) / rate := rfl

theorem storeSampleRate_waits (h : s.weigh.lossTimer = some since)
    (hd : s.now < since + (4 * 8000000 + (rate - 1)) / rate) :
    storeSampleRate rate s = { s with weigh.sampleRate := rate } := by
  simp only [storeSampleRate, h, lossTicks_eq, if_neg (Nat.not_le.mpr hd)]

theorem storeSampleRate_expires (h : s.weigh.lossTimer = some since)
    (hd : since + (4 * 8000000 + (rate - 1)) / rate ≤ s.now) :
    storeSampleRate rate s = lossExpiry { s with weigh.sampleRate := rate } := by
  simp only [storeSampleRate, h, lossTicks_eq, if_pos hd]

end

/-- Six characters of a code and two zero bytes are a lot string (R120, R196). -/
theorem isLot_iff {b : List Byte} (h : b.length = 8) :
    isLot b = true ↔ (b.take 6).all isCodeChar = true ∧ b.drop 6 = [0, 0] := by
  obtain ⟨x, y, hxy⟩ := List.length_eq_two.mp (show (b.drop 6).length = 2 by simp [h])
  have hx : byteAt b 6 = x := by rw [← byteAt_drop b 0 6, hxy]; rfl
  have hy : byteAt b 7 = y := by rw [← byteAt_drop b 1 6, hxy]; rfl
  simp [isLot, hx, hy, hxy, and_assoc]

/-! ## A setting tested against a range alone (Table 9-5) -/

/-- The command c writes the one entry i of SETTINGS, which is tested against a range alone and stored by `store`. -/
def RangeSetting (c : Instr) (i : Byte) (e : BitVec 64) (lo hi : Int) (store : Nat → State → State) : Prop :=
  WritesSetting c i e ∧ ∀ (s : State) (b : List Byte),
    settingRefusal s (i.toNat, b) = valueTest (between lo hi (leInt b))
      ∧ storeSetting (i.toNat, b) s = store (leInt b).toNat s

section
variable {c : Instr} {i : Byte} {e : BitVec 64} {lo hi : Int} {store : Nat → State → State} {s : State}

theorem taken_rangeStored (hw : RangeSetting c i e lo hi store) (h : Listening s) (hlo : lo ≤ e.toInt)
    (hhi : e.toInt ≤ hi) {t : State} (ht : store e.toInt.toNat (counted s) = t) : Taken c s (wroteReply 2 i 1 t) := by
  obtain ⟨hentry, heffect⟩ := hw
  obtain ⟨hrefusal, hstore⟩ := heffect (counted s) (leBytes 8 e.toNat)
  rw [leInt_leBytes64] at hrefusal hstore
  exact taken_settingStored hentry h (hrefusal.trans (valueTest_inside hlo hhi)) (hstore.trans ht)

theorem taken_rangeRefused (hw : RangeSetting c i e lo hi store) (h : Listening s)
    (hout : e.toInt < lo ∨ hi < e.toInt) : Taken c s (refusedReply .badValue i 2 i 1 (counted s)) := by
  obtain ⟨hentry, heffect⟩ := hw
  obtain ⟨hrefusal, -⟩ := heffect (counted s) (leBytes 8 e.toNat)
  rw [leInt_leBytes64] at hrefusal
  exact taken_settingRefused hentry h (hrefusal.trans (valueTest_outside hout))

end

section
variable (e : BitVec 64)

theorem rangeSetting_input (i : Input) : RangeSetting (.filterTimeWrite 0 (.discrete i) e)
    (BitVec.ofNat 8 (filterIndex (.discrete i))) e 0 255 (storeInputTime i) := by
  cases i <;> exact ⟨writesSetting (fun _ => rfl) (by decide), fun _ _ => ⟨rfl, rfl⟩⟩

theorem rangeSetting_encoder : RangeSetting (.filterTimeWrite 0 .encoder e) 8 e 0 63 storeEncoderTime :=
  ⟨writesSetting (fun _ => rfl) (by decide), fun _ _ => ⟨rfl, rfl⟩⟩

theorem rangeSetting_sampleRate : RangeSetting (.sampleRateWrite 0 e) 9 e 1200 9600 storeSampleRate :=
  ⟨writesSetting (fun _ => rfl) (by decide), fun _ _ => ⟨rfl, rfl⟩⟩

theorem rangeSetting_blockSize : RangeSetting (.weighingSettingsWrite 0 .blockSize e) 10 e 4 64
    (fun v s => discardTracking { s with weigh.blockSize := v }) :=
  ⟨writesSetting (fun _ => rfl) (by decide), fun _ _ => ⟨rfl, rfl⟩⟩

theorem rangeSetting_settleBand : RangeSetting (.weighingSettingsWrite 0 .settleBand e) 11 e 0 65535
    (fun v s => discardTracking { s with weigh.settleBand := v }) :=
  ⟨writesSetting (fun _ => rfl) (by decide), fun _ _ => ⟨rfl, rfl⟩⟩

theorem rangeSetting_zeroTracking : RangeSetting (.weighingSettingsWrite 0 .zeroTracking e) 12 e 0 1
    (fun v s => discardTracking { s with weigh.zeroTracking := v == 1 }) :=
  ⟨writesSetting (fun _ => rfl) (by decide), fun _ _ => ⟨rfl, rfl⟩⟩

theorem rangeSetting_zeroBand : RangeSetting (.weighingSettingsWrite 0 .zeroBand e) 13 e 0 65535
    (fun v s => discardTracking { s with weigh.zeroBand := v }) :=
  ⟨writesSetting (fun _ => rfl) (by decide), fun _ _ => ⟨rfl, rfl⟩⟩

theorem writesSetting_factor : WritesSetting (.calibrationFactorWrite 0 e) 14 e :=
  writesSetting (fun _ => rfl) (by decide)

theorem settingRefusal_factor (s : State) : settingRefusal s ((14 : Byte).toNat, leBytes 8 e.toNat) =
    idleOnly s (valueTest (between 1 16777216 e.toInt)) := by
  rw [← leInt_leBytes64]
  rfl

theorem storeSetting_factor (s : State) : storeSetting ((14 : Byte).toNat, leBytes 8 e.toNat) s =
    { s with weigh.factor := e.toInt.toNat } := by
  rw [← leInt_leBytes64]
  rfl

theorem writesSetting_lot : WritesSetting (.lotStringWrite 0 e) 16 e := writesSetting (fun _ => rfl) (by decide)

theorem settingRefusal_lot (s : State) : settingRefusal s ((16 : Byte).toNat, leBytes 8 e.toNat) =
    valueTest (isLot (leBytes 8 e.toNat)) := rfl

end

/-- Settles O51, setting by setting. -/
theorem unitSettingsWritten : Obligations.UnitSettingsWritten := by
  intro s e h
  refine ⟨fun i lo hi hf => ?inputStable, fun i since lo hi hf => ⟨fun hd => ?inputWaits, fun hd => ?inputAccepts⟩,
    fun lo hi hf => ?encoderStable, fun since lo hi hf => ⟨fun hd => ?encoderWaits, fun hd => ?encoderAccepts⟩,
    fun hout => ?encoderRefused, fun i hout => ?inputRefused, fun lo hi ht => ?rateStopped,
    fun since lo hi ht => ⟨fun hd => ?rateWaits, fun hd => ?rateExpires⟩, fun hout => ?rateRefused,
    fun lo hi => ?blockSize, fun hout => ?blockSizeRefused, fun lo hi => ⟨?settleBand, ?zeroBand⟩,
    fun hout => ⟨?settleBandRefused, ?zeroBandRefused⟩, fun he => ?zeroTracking, fun h0 h1 => ?zeroTrackingRefused,
    fun hl lo hi => ?factor, fun hl hout => ?factorRefused, fun hl => ?factorInRun, fun hc hz => ?lot,
    fun hn => ?lotRefused⟩
  case inputStable =>
    exact taken_rangeStored (rangeSetting_input e i) h lo hi (storeInputTime_stable (s := counted s) hf)
  case inputWaits =>
    exact taken_rangeStored (rangeSetting_input e i) h lo hi (storeInputTime_waits (s := counted s) hf hd)
  case inputAccepts =>
    exact taken_rangeStored (rangeSetting_input e i) h lo hi (storeInputTime_accepts (s := counted s) hf hd)
  case encoderStable =>
    exact taken_rangeStored (rangeSetting_encoder e) h lo hi (storeEncoderTime_stable (s := counted s) hf)
  case encoderWaits =>
    exact taken_rangeStored (rangeSetting_encoder e) h lo hi (storeEncoderTime_waits (s := counted s) hf hd)
  case encoderAccepts =>
    exact taken_rangeStored (rangeSetting_encoder e) h lo hi (storeEncoderTime_accepts (s := counted s) hf hd)
  case encoderRefused => exact taken_rangeRefused (rangeSetting_encoder e) h hout
  case inputRefused => exact taken_rangeRefused (rangeSetting_input e i) h hout
  case rateStopped =>
    exact taken_rangeStored (rangeSetting_sampleRate e) h lo hi (storeSampleRate_stopped (s := counted s) ht)
  case rateWaits =>
    exact taken_rangeStored (rangeSetting_sampleRate e) h lo hi (storeSampleRate_waits (s := counted s) ht hd)
  case rateExpires =>
    exact taken_rangeStored (rangeSetting_sampleRate e) h lo hi (storeSampleRate_expires (s := counted s) ht hd)
  case rateRefused => exact taken_rangeRefused (rangeSetting_sampleRate e) h hout
  case blockSize => exact taken_rangeStored (rangeSetting_blockSize e) h lo hi rfl
  case blockSizeRefused => exact taken_rangeRefused (rangeSetting_blockSize e) h hout
  case settleBand => exact taken_rangeStored (rangeSetting_settleBand e) h lo hi rfl
  case zeroBand => exact taken_rangeStored (rangeSetting_zeroBand e) h lo hi rfl
  case settleBandRefused => exact taken_rangeRefused (rangeSetting_settleBand e) h hout
  case zeroBandRefused => exact taken_rangeRefused (rangeSetting_zeroBand e) h hout
  case zeroTracking =>
    rcases he with rfl | rfl
    · exact taken_rangeStored (rangeSetting_zeroTracking 0) h (by decide) (by decide) rfl
    · exact taken_rangeStored (rangeSetting_zeroTracking 1) h (by decide) (by decide) rfl
  case zeroTrackingRefused =>
    have h0' : e.toInt ≠ 0 := fun hz => h0 (BitVec.eq_of_toInt_eq hz)
    have h1' : e.toInt ≠ 1 := fun hz => h1 (BitVec.eq_of_toInt_eq hz)
    exact taken_rangeRefused (rangeSetting_zeroTracking e) h (by omega)
  case factor =>
    refine taken_settingStored (writesSetting_factor e) h ?_ (storeSetting_factor e _)
    rw [settingRefusal_factor, idleOnly_idle (s := counted s) hl, valueTest_inside lo hi]
  case factorRefused =>
    refine taken_settingRefused (writesSetting_factor e) h ?_
    rw [settingRefusal_factor, idleOnly_idle (s := counted s) hl, valueTest_outside hout]
  case factorInRun =>
    refine taken_settingRefused (writesSetting_factor e) h ?_
    rw [settingRefusal_factor, idleOnly_run (s := counted s) hl]
  case lot =>
    refine taken_settingStored (writesSetting_lot e) h ?_ rfl
    rw [settingRefusal_lot, (isLot_iff (length_leBytes 8 _)).mpr ⟨hc, hz⟩]
    rfl
  case lotRefused =>
    have hnot : isLot (leBytes 8 e.toNat) = false := by
      rw [Bool.eq_false_iff, ne_eq, isLot_iff (length_leBytes 8 _), not_and_or]
      simpa only [Bool.not_eq_true] using hn
    refine taken_settingRefused (writesSetting_lot e) h ?_
    rw [settingRefusal_lot, hnot]
    rfl

end Sys2Proof.Machine
end

section
/-! PROOFS. What the operations of every block may do to the Tracking Unit, and the invariants that follow (R57, R60,
R63, R75, R87): O55 and O57. -/

namespace Sys2Proof.Machine

/-! ## Serials given (R63) -/

theorem serialTaken_iff {q : List CanRecord} {n : Serial} :
    serialTaken q n = true ↔ n ∈ q.map CanRecord.serial := by
  simp [serialTaken]

/-- Where the serial found is taken, so is every serial that was tried before it. -/
theorem serialTaken_tried {q : List CanRecord} : ∀ {fuel : Nat} {n : Serial},
    serialTaken q (freeSerial q fuel n) = true → ∀ k ≤ fuel, serialTaken q (n + BitVec.ofNat 12 k) = true
  | 0, n, h, k, hk => by
    obtain rfl : k = 0 := Nat.le_zero.mp hk
    simpa [freeSerial] using h
  | fuel + 1, n, h, k, hk => by
    by_cases hn : serialTaken q n = true
    · cases k with
      | zero => simpa using hn
      | succ k =>
        have htried := serialTaken_tried (by simpa [freeSerial, hn] using h) k (Nat.le_of_succ_le_succ hk)
        rwa [BitVec.add_assoc, BitVec.add_comm 1#12, ← BitVec.ofNat_add] at htried
    · simp [freeSerial, hn] at h

/-- A queue with fewer records than there are serials leaves one free, and it is found (R63). -/
theorem freeSerial_not_mem {q : List CanRecord} (n : Serial) (h : q.length < 4096) :
    freeSerial q q.length n ∉ q.map CanRecord.serial := by
  intro hmem
  have htaken := serialTaken_tried (serialTaken_iff.mpr hmem)
  let tried := (List.range (q.length + 1)).map (fun k => n + BitVec.ofNat 12 k)
  have hnodup : tried.Nodup := by
    refine List.Nodup.map_on (fun a ha b hb hab => ?_) List.nodup_range
    simp only [List.mem_range] at ha hb
    have hk : (BitVec.ofNat 12 a).toNat = (BitVec.ofNat 12 b).toNat := congrArg _ (BitVec.add_right_inj n |>.mp hab)
    simp only [BitVec.toNat_ofNat] at hk
    omega
  have hsub : tried ⊆ q.map CanRecord.serial := by
    intro m hm
    obtain ⟨k, hk, rfl⟩ := List.mem_map.mp hm
    exact serialTaken_iff.mp (htaken k (Nat.le_of_lt_succ (List.mem_range.mp hk)))
  have hlen := (hnodup.subperm hsub).length_le
  simp [tried] at hlen

/-! ## The moves of the Tracking Unit -/

/-- Everything that can happen to the Tracking Unit, one move at a time. -/
inductive TrackMove (k : TrackingUnit) : TrackingUnit → Prop
  /-- Records are written under their serials (R62). -/
  | write (q : List CanRecord) (hq : q.map CanRecord.serial = k.queue.map CanRecord.serial) :
    TrackMove k { k with queue := q }
  /-- A record is admitted in RUN, while there is room (R64). -/
  | admission (r : CanRecord) (hl : k.line = .run) (hroom : k.queue.length < 128)
      (hs : r.serial = freeSerial k.queue k.queue.length k.nextSerial) :
    TrackMove k { k with
      queue := insertByOrigin r k.queue, nextSerial := r.serial + 1, counters.admitted := k.counters.admitted + 1 }
  /-- A stray is inserted in RUN, while there is room (R80). -/
  | stray (r : CanRecord) (hl : k.line = .run) (hroom : k.queue.length < 128)
      (hs : r.serial = freeSerial k.queue k.queue.length k.nextSerial) :
    TrackMove k { k with
      queue := insertByOrigin r k.queue, nextSerial := r.serial + 1, counters.strays := k.counters.strays + 1 }
  /-- A record exits (R77). -/
  | exit (n : Serial) (r : CanRecord) (hf : findRecord n k.queue = some r) :
    TrackMove k { k with queue := removeRecord n k.queue, counters.exited := k.counters.exited + 1 }
  /-- A record is lost (R74). -/
  | lose (n : Serial) (r : CanRecord) (hf : findRecord n k.queue = some r) :
    TrackMove k { k with queue := removeRecord n k.queue, counters.lost := k.counters.lost + 1 }
  /-- A record becomes the window owner in RUN, or the owner that there is has its open point taken (R75, R82). -/
  | own (o : WindowOwner) (h : k.line = .run ∨ k.owner.isSome = true) : TrackMove k { k with owner := some o }
  /-- The window owner is cleared (R75). -/
  | disown : TrackMove k { k with owner := none }
  /-- START (R58). -/
  | start : TrackMove k { k with line := .run }
  /-- STOP in RUN: the queue is flushed (R59, R84). -/
  | stop : TrackMove k { k with
      line := .idle, queue := [], owner := none
      counters.flushed := k.counters.flushed + BitVec.ofNat 32 k.queue.length }
  /-- A line reset (R85). -/
  | lineReset : TrackMove k { k with line := .idle, queue := [], owner := none, counters := {} }
  /-- A hard reset (R86). -/
  | hardReset : TrackMove k .reset
  /-- Distances are stored or learned (R68, R69). -/
  | measure (d : List (Option Nat)) (o : Bool) (l : List Nat) :
    TrackMove k { k with distances := d, override := o, learned := l }
  /-- Overflows and untracked arrivals are counted, and the latter cleared (R66, R81, R190). -/
  | count (x u : Counter) : TrackMove k { k with counters.overflow := x, untracked := u }

/-- R87 on the Tracking Unit alone. -/
def TrackingUnit.Balanced (k : TrackingUnit) : Prop :=
  k.counters.admitted + k.counters.strays =
    k.counters.exited + k.counters.lost + k.counters.flushed + BitVec.ofNat 32 k.queue.length

/-- R57, R60 and R75 on the Tracking Unit alone. -/
def TrackingUnit.Sound (k : TrackingUnit) : Prop :=
  (k.line = .idle → k.queue = [] ∧ k.owner = none) ∧ (k.queue.map CanRecord.serial).Nodup ∧ k.queue.length ≤ 128

/-- A record more in the queue, or one less, on the wrapping counters. -/
theorem ofNat_succ_length (n : Nat) : BitVec.ofNat 32 (n + 1) = BitVec.ofNat 32 n + 1 := BitVec.ofNat_add ..

theorem TrackMove.keeps_balanced {k k' : TrackingUnit} (m : TrackMove k k') (h : k.Balanced) : k'.Balanced := by
  unfold TrackingUnit.Balanced at h ⊢
  cases m with
  | write q hq =>
    have hlen : q.length = k.queue.length := by simpa using congrArg List.length hq
    simpa [hlen] using h
  | admission r hl hroom hs | stray r hl hroom hs =>
    simp only [length_insertByOrigin, ofNat_succ_length]
    grind
  | exit n r hf | lose n r hf =>
    rw [← length_removeRecord hf, ofNat_succ_length] at h
    grind
  | stop =>
    rw [h, BitVec.add_assoc]
    simp
  | lineReset | hardReset => rfl
  | own | disown | start | measure | count => exact h

/-- A record with a free serial joins a queue of distinct serials. -/
theorem nodup_insertByOrigin {q : List CanRecord} {r : CanRecord} (h : (q.map CanRecord.serial).Nodup)
    (hr : r.serial ∉ q.map CanRecord.serial) : ((insertByOrigin r q).map CanRecord.serial).Nodup :=
  ((perm_insertByOrigin r q).map _).nodup_iff.mpr (List.nodup_cons.mpr ⟨hr, h⟩)

theorem nodup_removeRecord {q : List CanRecord} (n : Serial) (h : (q.map CanRecord.serial).Nodup) :
    ((removeRecord n q).map CanRecord.serial).Nodup := h.sublist ((removeRecord_sublist n q).map _)

theorem TrackMove.keeps_sound {k k' : TrackingUnit} (m : TrackMove k k') (h : k.Sound) : k'.Sound := by
  obtain ⟨hidle, hserials, hlen⟩ := h
  cases m with
  | write q hq =>
    have hlength : q.length = k.queue.length := by simpa using congrArg List.length hq
    refine ⟨fun hi => ⟨?_, (hidle hi).2⟩, hq ▸ hserials, hlength ▸ hlen⟩
    simpa [(hidle hi).1] using hq
  | admission r hl hroom hs | stray r hl hroom hs =>
    have hfree : r.serial ∉ k.queue.map CanRecord.serial := hs ▸ freeSerial_not_mem _ (by omega)
    exact ⟨fun hi => by simp [hl] at hi, nodup_insertByOrigin hserials hfree, by simpa using hroom⟩
  | exit n r hf | lose n r hf =>
    refine ⟨fun hi => ?_, nodup_removeRecord n hserials, (removeRecord_sublist n _).length_le.trans hlen⟩
    exact ⟨by simp [(hidle hi).1, removeRecord], (hidle hi).2⟩
  | own o h =>
    refine ⟨fun hi => ?_, hserials, hlen⟩
    have hi : k.line = .idle := hi
    simp [hi, (hidle hi).2] at h
  | disown => exact ⟨fun hi => ⟨(hidle hi).1, rfl⟩, hserials, hlen⟩
  | start => exact ⟨nofun, hserials, hlen⟩
  | stop | lineReset | hardReset => exact ⟨fun _ => ⟨rfl, rfl⟩, .nil, Nat.zero_le _⟩
  | measure | count => exact ⟨hidle, hserials, hlen⟩

/-- `t` has the Tracking Unit of `s` after moves of it. -/
def TracksCans (s t : State) : Prop := Relation.ReflTransGen TrackMove s.track t.track

namespace TracksCans

variable {s t u : State}

theorem refl (s : State) : TracksCans s s := Relation.ReflTransGen.refl

theorem move (h : TracksCans s t) (m : TrackMove t.track u.track) : TracksCans s u := .tail h m

/-- The Tracking Unit left as it is. -/
theorem leave (h : TracksCans s t) (e : u.track = t.track) : TracksCans s u := by rwa [TracksCans, e]

/-- What every move keeps, moves keep. -/
theorem keeps {P : TrackingUnit → Prop} (hP : ∀ {k k'}, TrackMove k k' → P k → P k') (h : TracksCans s t)
    (hs : P s.track) : P t.track :=
  Relation.ReflTransGen.rec (motive := fun k _ => P k) hs (fun _ m ih => hP m ih) h

end TracksCans

/-! ## Operations that leave the Tracking Unit as it is -/

section
variable (s : State)

/-! ### Queues and latches -/

@[simp] theorem appendUrgent_track (f : OwnFrame) : (appendUrgent f s).2.track = s.track := by
  rcases appendUrgent_cases f s with ⟨h, -⟩ | ⟨h, -⟩ <;> rw [h]

@[simp] theorem queueNotice_track : (queueNotice s).2.track = s.track := by
  unfold queueNotice
  rcases appendRoutine_cases .notice s with ⟨h, -⟩ | ⟨h, -⟩ <;> rw [h]

@[simp] theorem canReport_track (lost : Bool) (r : CanRecord) : (canReport lost r s).track = s.track := by
  unfold canReport
  split
  · rcases appendRoutine_cases (.ready ⟨.managementUnit, 0, kindCanReport, reportPayload lost s r⟩) s
      with ⟨h, -⟩ | ⟨h, -⟩ <;> rw [h]
    exact raise_track ..
  · rfl

@[simp] theorem ringFault_track (f : RingFault) : (ringFault f s).track = s.track := by rw [ringFault_frame]

@[simp] theorem sendOn_track (f : List Byte) : (sendOn f s).track = s.track := by
  unfold sendOn
  split <;> simp

/-! ### Code Unit -/

@[simp] theorem triggerPoint_track : (triggerPoint s).track = s.track := by
  unfold triggerPoint
  split <;> rfl

@[simp] theorem abandonRead_track : (abandonRead s).track = s.track := by
  unfold abandonRead
  split <;> rfl

@[simp] theorem takeCharacter_track (d : Byte) (p f : Bool) : (takeCharacter d p f s).track = s.track := by
  unfold takeCharacter
  dsimp only
  split_ifs <;> rfl

@[simp] theorem frameCharacter_track (d : Byte) (p f : Bool) : (frameCharacter d p f s).track = s.track := by
  unfold frameCharacter
  split <;> simp

@[simp] theorem codeBreakEndEvent_track : (codeBreakEndEvent s).track = s.track := by
  unfold codeBreakEndEvent
  split <;> rfl

@[simp] theorem codeLineHighEvent_track : (codeLineHighEvent s).track = s.track := by
  unfold codeLineHighEvent
  split_ifs <;> rfl

@[simp] theorem triggerSentEvent_track (high : Bool) : (triggerSentEvent high s).track = s.track := by
  unfold triggerSentEvent
  split
  · split <;> rfl
  · rfl

@[simp] theorem storeCodeEnable_track (on : Bool) : (storeCodeEnable on s).track = s.track := by
  unfold storeCodeEnable enablePort disablePort
  split_ifs <;> simp

/-! ### Dose Regulator -/

@[simp] theorem lagDecrement_track (v : Nat) : (lagDecrement v s).track = s.track := by rw [lagDecrement_frame]

@[simp] theorem startTrimExchange_track (v : Nat) (x : Int) : (startTrimExchange v x s).track = s.track := by
  unfold startTrimExchange
  rcases appendUrgent_cases (trimFrame s v x) s with ⟨h, -⟩ | ⟨h, -⟩ <;> simp [h]

@[simp] theorem startLockout_track (v : Nat) : (startLockout v s).track = s.track := by
  unfold startLockout
  rcases appendUrgent_cases (valveFrame s .off v) s with ⟨h, -⟩ | ⟨h, -⟩ <;> simp [h]

@[simp] theorem evaluateWindow_track (p : Product) (v : Nat) : (evaluateWindow p v s).track = s.track := by
  unfold evaluateWindow
  dsimp only
  split_ifs <;> simp

@[simp] theorem enterWeight_track (p : Product) (r : CanRecord) : (enterWeight p r s).track = s.track := by
  unfold enterWeight
  split
  · rfl
  · dsimp only
    split <;> simp

@[simp] theorem gateHandOff_track (r : CanRecord) : (gateHandOff r s).track = s.track := by
  unfold gateHandOff
  split
  · rfl
  · dsimp only
    split
    · simp
    · rw [enterWeight_track]
      split <;> simp

@[simp] theorem exchangeTimeoutEvent_track (v : Nat) : (exchangeTimeoutEvent v s).track = s.track := by
  unfold exchangeTimeoutEvent
  split <;> simp

@[simp] theorem releaseValve_track (v : Nat) : (releaseValve v s).2.track = s.track := by
  unfold releaseValve
  rcases appendUrgent_cases (valveFrame s .on v) s with ⟨h, -⟩ | ⟨h, -⟩ <;> rw [h] <;> split_ifs <;> rfl

@[simp] theorem storeValveCount_track (n : Nat) : (storeValveCount n s).track = s.track := by
  unfold storeValveCount
  split <;> rfl

@[simp] theorem storeMode_track (v : Nat) (b : Byte) : (storeMode v b s).track = s.track := by
  unfold storeMode
  split <;> rfl

/-! ### Verdict Unit -/

@[simp] theorem startPulse_track : (startPulse s).track = s.track := by
  unfold startPulse
  dsimp only
  split <;> rfl

@[simp] theorem rejectPulseEvent_track : (rejectPulseEvent s).track = s.track := by
  unfold rejectPulseEvent
  split <;> rfl

@[simp] theorem postCause_track (c : Cause) : (postCause c s).track = s.track := by
  rw [postCause_frame]
  rfl

@[simp] theorem lostRunLoss_track : (lostRunLoss s).track = s.track := by
  unfold lostRunLoss
  dsimp only
  split <;> simp

/-! ### Weighing Engine -/

@[simp] theorem engineOpen_track : (engineOpen s).track = s.track := by
  unfold engineOpen
  split <;> rfl

@[simp] theorem captureSample_track (x : Int) (a : CaptureAccumulator) : (captureSample x a s).track = s.track := by
  unfold captureSample appendZeroReply
  dsimp only
  split <;> simp

@[simp] theorem evaluateRun_track (x : Int) : (evaluateRun x s).track = s.track := by
  unfold evaluateRun
  dsimp only
  split <;> simp

@[simp] theorem trackingSample_track (x : Int) : (trackingSample x s).track = s.track := by
  unfold trackingSample
  dsimp only
  split_ifs <;> simp

@[simp] theorem deliverSample_track (x : Int) (b : Bool) : (deliverSample x b s).track = s.track := by
  have hd : (if b then discardTracking s else s).track = s.track := by split <;> rfl
  unfold deliverSample
  dsimp only
  generalize (if b then discardTracking s else s) = u at hd ⊢
  split
  · exact hd
  · split
    · exact hd
    · split
      · rw [captureSample_track, hd]
      · split
        · rw [trackingSample_track, hd]
        · exact hd

@[simp] theorem completeSampleFrame_track (w : BitVec 32) : (completeSampleFrame w s).track = s.track := by
  unfold completeSampleFrame restartLossTimer
  dsimp only
  split_ifs <;> simp

@[simp] theorem shortFrameEvent_track : (shortFrameEvent s).track = s.track := by
  rcases shortFrameEvent_cases s with ⟨-, h⟩ | ⟨-, h⟩ <;> rw [h]

@[simp] theorem sampleFrameEvent_track (p : SamplePart) : (sampleFrameEvent p s).track = s.track := by
  cases p with
  | sync =>
    show (sampleSync s).track = s.track
    unfold sampleSync
    split <;> simp
  | clk data =>
    show (sampleClock data s).track = s.track
    rcases sampleClock_cases data s with ⟨-, h⟩ | ⟨bits, -, ⟨-, h⟩ | ⟨-, h⟩⟩ <;> simp [h]
  | frame w =>
    show (wholeSampleFrame w s).track = s.track
    unfold wholeSampleFrame
    split <;> simp

@[simp] theorem lossExpiry_track : (lossExpiry s).track = s.track := by
  unfold lossExpiry faultOpenWindow
  dsimp only
  split_ifs
  · rfl
  · rw [raise_track, discardTracking_track]
    split
    · split <;> rfl
    · rfl

@[simp] theorem sampleLossEvent_track : (sampleLossEvent s).track = s.track := by
  unfold sampleLossEvent
  split <;> simp

@[simp] theorem storeSampleRate_track (r : Nat) : (storeSampleRate r s).track = s.track := by
  unfold storeSampleRate
  dsimp only
  split
  · split <;> simp
  · rfl

/-! ### Input Unit and Management Unit -/

@[simp] theorem homeEdge_track : (homeEdge s).track = s.track := by
  unfold homeEdge
  dsimp only
  split
  · rfl
  · split <;> simp

@[simp] theorem countStep_track : (countStep s).2.track = s.track := by rw [countStep_frame]

/-- Entries stored one by one leave the Tracking Unit where storing one does. -/
theorem storeEach_track {store : Entry → State → State} (h : ∀ e s, (store e s).track = s.track) (es : List Entry)
    (s : State) : (storeEach store es s).track = s.track := by
  induction es generalizing s with
  | nil => rfl
  | cons e es ih => exact (ih (store e s)).trans (h e s)

theorem storeModes_track (es : List Entry) : (storeModes es s).track = s.track :=
  storeEach_track (fun e s => storeMode_track s e.1 _) es s

@[simp] theorem unknownKindEvent_track (k : Byte) : (unknownKindEvent k s).track = s.track := by
  unfold unknownKindEvent reply
  split <;> simp

@[simp] theorem performIdentify_track (d : List Byte) : (performIdentify d s).track = s.track := by
  unfold performIdentify reply
  split <;> simp

@[simp] theorem actZero_track : (actZero s).track = s.track := by
  unfold actZero actionReply reply
  split <;> simp

@[simp] theorem testModeOn_track : (testModeOn s).2.track = s.track := by
  unfold testModeOn
  split_ifs <;> rfl

/-! ### Ring Port -/

@[simp] theorem requestRelay_track : (requestRelay s).track = s.track := by
  unfold requestRelay
  split
  · rfl
  · split <;> rfl

@[simp] theorem ringBreakDetected_track : (ringBreakDetected s).track = s.track := by
  unfold ringBreakDetected
  dsimp only
  rw [requestRelay_track]
  split <;> simp

@[simp] theorem ringBreakEvent_track : (ringBreakEvent s).track = s.track := by
  unfold ringBreakEvent
  split <;> simp

@[simp] theorem falseStart_track : (falseStart s).track = s.track := by
  unfold falseStart
  dsimp only
  split <;> rfl

@[simp] theorem falseStartEvent_track : (falseStartEvent s).track = s.track := by
  unfold falseStartEvent
  split <;> simp

@[simp] theorem breakEnds_track (start len : Nat) : (breakEnds start len s).track = s.track := by
  unfold breakEnds recordBreak
  split <;> rfl

@[simp] theorem resyncEvent_track (len : Nat) : (resyncEvent len s).track = s.track := by
  unfold resyncEvent
  split
  · split <;> simp
  · rfl

@[simp] theorem longBreakEndEvent_track (len : Nat) : (longBreakEndEvent len s).track = s.track := by
  unfold longBreakEndEvent
  split <;> simp

@[simp] theorem interCharacterEvent_track (low : Ticks) : (interCharacterEvent low s).track = s.track := by
  rw [interCharacterEvent_frame]

@[simp] theorem gapEvent_track : (gapEvent s).track = s.track := by
  unfold gapEvent
  split <;> rfl

@[simp] theorem frameSentEvent_track : (frameSentEvent s).track = s.track := by
  unfold frameSentEvent
  split
  · dsimp only
    split <;> rfl
  · rfl

@[simp] theorem relayEndEvent_track : (relayEndEvent s).track = s.track := by
  unfold relayEndEvent
  split
  · split <;> rfl
  · rfl

@[simp] theorem noticeRetryEvent_track : (noticeRetryEvent s).track = s.track := by
  have h := queueNotice_track s
  unfold noticeRetryEvent
  split
  · split <;> rename_i e <;> rw [e] at h <;> exact h
  · rfl

end

/-! ## Operations that move the Tracking Unit

For each operation `f` of the model, `TracksCans.f` says that what `f` does to the Tracking Unit is a run of moves. -/

namespace TracksCans

variable {s t u : State}

/-- A choice between two states. -/
theorem ite {c : Prop} [Decidable c] (h : TracksCans s t) (h' : TracksCans s u) :
    TracksCans s (if c then t else u) := by
  split
  · exact h
  · exact h'

/-- Moves made at each element of a list. -/
theorem foldl {α : Type} {f : State → α → State} {l : List α} (h : TracksCans s t)
    (hf : ∀ {a t}, TracksCans s t → TracksCans s (f t a)) : TracksCans s (l.foldl f t) := by
  induction l generalizing t with
  | nil => exact h
  | cons a l ih => exact ih (hf h)

/-! ### Records written -/

theorem writeRecord {n : Serial} {f : CanRecord → CanRecord} (h : TracksCans s t)
    (hf : ∀ r, (f r).serial = r.serial) : TracksCans s (writeRecord n f t) :=
  h.move (.write _ (map_serial_updateRecord hf _))

theorem markStale {v : Nat} (h : TracksCans s t) : TracksCans s (markStale v t) :=
  h.move (.write _ (by rw [List.map_map]; congr 1; funext r; dsimp only [Function.comp]; split <;> rfl))

theorem markAllStale (h : TracksCans s t) : TracksCans s (markAllStale t) :=
  h.move (.write _ (by rw [List.map_map]; congr 1; funext r; dsimp only [Function.comp]; split <;> rfl))

/-- What the Weighing Engine is told at most writes weights. -/
theorem told (h : TracksCans s t) (e : EngineTold t u) : TracksCans s u :=
  h.move (by rw [e.track]; exact .write _ e.serials)

/-! ### Code Unit -/

theorem appendUrgent {f : OwnFrame} {b : Bool} (h : TracksCans s t) (e : appendUrgent f t = (b, u)) :
    TracksCans s u := h.leave ((congrArg (·.2.track) e).symm.trans (appendUrgent_track t f))

theorem printPoint {n : Serial} (h : TracksCans s t) : TracksCans s (printPoint n t) := by
  unfold Machine.printPoint
  split
  · exact h
  · dsimp only
    split <;> rename_i e <;> exact .writeRecord (h.appendUrgent e :) fun _ => rfl

theorem writeCode {n : Serial} {x : CodeResult} (h : TracksCans s t) : TracksCans s (writeCode n x t) :=
  .writeRecord h fun r => by split <;> rfl

theorem assignOldest {e : Count} {x : CodeResult} (h : TracksCans s t) : TracksCans s (assignOldest e x t).2 := by
  unfold Machine.assignOldest
  split
  · exact h
  · exact .writeCode h

theorem assignTagged {e : Count} {x : List Byte} (h : TracksCans s t) : TracksCans s (assignTagged e x t).2 := by
  unfold Machine.assignTagged
  dsimp only
  split
  · split <;> exact .writeCode h
  · split
    · exact h
    · exact .writeCode h

theorem assignRead {e : Count} {o : ReadOutcome} {x : List Byte} (h : TracksCans s t) :
    TracksCans s (assignRead e o x t).2 := by
  unfold Machine.assignRead
  split
  · exact h
  · split
    · exact .assignTagged h
    · exact .assignOldest h
    · exact h

theorem completeRead (h : TracksCans s t) : TracksCans s (completeRead t) := by
  unfold Machine.completeRead
  dsimp only
  refine TracksCans.assignRead (t := ?_) ?_
  split <;> exact h

theorem breakDetected (h : TracksCans s t) : TracksCans s (breakDetected t) := by
  have ha : TracksCans s (abandonRead t) := h.leave (abandonRead_track t)
  unfold Machine.breakDetected
  dsimp only
  split
  · exact .assignOldest ha
  · exact ha

theorem characterEnds {c : CodeSamples} (h : TracksCans s t) : TracksCans s (characterEnds c t) := by
  unfold Machine.characterEnds
  split
  · exact h
  · exact .breakDetected h
  · dsimp only
    refine h.leave ?_
    split_ifs <;> exact frameCharacter_track ..

theorem codeCharacterEvent {p : CodePart} (h : TracksCans s t) : TracksCans s (codeCharacterEvent p t) := by
  unfold Machine.codeCharacterEvent
  refine .ite ?_ h
  split
  · exact h
  · exact .characterEnds h

theorem codeBreakEvent (h : TracksCans s t) : TracksCans s (codeBreakEvent t) := by
  unfold Machine.codeBreakEvent
  refine .ite h (.ite ?_ h)
  split
  · exact .breakDetected h
  · exact .ite (.breakDetected h) h

theorem idleTimerEvent (h : TracksCans s t) : TracksCans s (idleTimerEvent t) := by
  unfold Machine.idleTimerEvent idleTimerExpires
  split
  · refine .ite ?_ h
    dsimp only
    split
    · exact h
    · exact .completeRead h
    all_goals exact h
  · exact h

/-! ### Dose Regulator -/

theorem doseChange {v : Nat} (h : TracksCans s t) : TracksCans s (doseChange v t) := h.markStale

theorem captureBase {v d : Nat} (h : TracksCans s t) : TracksCans s (captureBase v d t) := .ite h (.doseChange h)

theorem ackAccepted {op : ExchangeOp} {v : Nat} (h : TracksCans s t) : TracksCans s (ackAccepted op v t) := by
  cases op
  · exact .doseChange h
  · exact h.leave (raise_track ..)
  · exact .doseChange h

theorem takeAck {k g v x : Byte} (h : TracksCans s t) : TracksCans s (takeAck k g v x t) := by
  unfold Machine.takeAck
  split
  · exact h
  · exact .ite h (.ite (.ite (.ite (.ackAccepted h) (h.leave (raise_track ..))) h) (.ite h h))

theorem productChange {p : Nat} (h : TracksCans s t) : TracksCans s (productChange p t) :=
  h.markAllStale.leave (by rw [productChange_eq, raise_track]; rfl)

theorem selectProduct {c : BitVec 16} (h : TracksCans s t) : TracksCans s (selectProduct c t).2 := by
  unfold Machine.selectProduct
  split
  · exact h
  · split
    · exact h
    · exact .productChange h

theorem snoopedProduct {c : BitVec 16} (h : TracksCans s t) : TracksCans s (snoopedProduct c t) := by
  unfold Machine.snoopedProduct
  split
  · exact h.leave (raise_track ..)
  · exact .ite h (.productChange h)

theorem clearValve {v : Nat} (h : TracksCans s t) : TracksCans s (clearValve v t).2 := by
  unfold Machine.clearValve
  split
  · exact h
  · split
    · exact h
    · exact .doseChange h

/-! ### Verdict Unit -/

theorem startPulse (h : TracksCans s t) : TracksCans s (startPulse t) := h.leave (startPulse_track t)

theorem gateHandOff {r : CanRecord} (h : TracksCans s t) : TracksCans s (gateHandOff r t) :=
  h.leave (gateHandOff_track ..)

theorem gateDecision {n : Serial} (h : TracksCans s t) : TracksCans s (gateDecision n t) := by
  unfold Machine.gateDecision
  split
  · exact h
  · dsimp only
    refine .ite (.gateHandOff ?_) ?_ <;>
      exact .ite (.startPulse (.writeRecord h fun _ => rfl)) (.writeRecord h fun _ => rfl)

theorem confirmAt {e : Count} (h : TracksCans s t) : TracksCans s (confirmAt e t) := by
  unfold Machine.confirmAt
  split
  · exact h
  · split
    · exact .writeRecord h fun _ => rfl
    · exact h

theorem confirmCheck {n : Serial} (h : TracksCans s t) : TracksCans s (confirmCheck n t) := by
  unfold Machine.confirmCheck
  split
  · exact h
  · rename_i r _
    have hw : TracksCans s (if r.confirm.isNone = true
        then Machine.writeRecord n (fun r => { r with confirm := some .notSeen }) t else t) :=
      .ite (h.writeRecord fun _ => rfl) h
    dsimp only
    split
    · exact hw.leave (postCause_track ..)
    · exact hw
    · exact hw
    · exact hw.leave (raise_track ..)

/-! ### The window owner -/

theorem engineClose (h : TracksCans s t) : TracksCans s (engineClose t) := by
  unfold Machine.engineClose
  split
  · obtain ⟨c, w, hw⟩ := finishWindow_eq _ _ _ _ _ { t with weigh.slot := .none }
    rw [hw]
    exact .told h (.andEngine (.trans (.engine t _) (writeWeight_told _ w _)) _)
  · exact h

theorem openOwner {o : WindowOwner} (h : TracksCans s t) (ho : t.track.owner.isSome = true) :
    TracksCans s (openOwner o t) := by
  refine h.move ?_
  rw [Machine.openOwner, engineOpen_track]
  exact .own _ (.inr ho)

theorem closeOwner (h : TracksCans s t) : TracksCans s (closeOwner t) :=
  .engineClose (h.move .disown)

theorem becomeOwner {n : Serial} {e : Count} (h : TracksCans s t) (hl : t.track.line = .run) :
    TracksCans s (becomeOwner n e t) :=
  .told (h.move (.own _ (.inl hl))) (becomeOwner_spec n e t).1

theorem ownerPoints {n : Serial} (h : TracksCans s t) : TracksCans s (ownerPoints n t) := by
  unfold Machine.ownerPoints
  extract_lets u
  have hu : TracksCans s u := by
    unfold u
    split
    · rename_i o ho
      exact .ite (h.openOwner (by rw [ho]; rfl)) h
    · exact h
  split
  · exact .ite (.closeOwner hu) hu
  · exact hu

/-! ### Station points -/

theorem takePoint {n : Serial} {p : PointsPassed → Bool} {m : PointsPassed → PointsPassed}
    {q : CanRecord → Option Count} {act : State → State} (h : TracksCans s t)
    (ha : ∀ {t}, TracksCans s t → TracksCans s (act t)) : TracksCans s (takePoint n p m q act t) := by
  unfold Machine.takePoint
  split
  · exact h
  · split
    · exact h
    · exact .ite (ha (h.writeRecord fun _ => rfl)) h

theorem eyeClose {n : Serial} (h : TracksCans s t) : TracksCans s (eyeClose n t) := by
  unfold Machine.eyeClose loseRecord
  split
  · exact h
  · rename_i r hr
    refine .ite (h.move ?_) h
    rw [lostRunLoss_track, canReport_track, raise_track]
    exact .lose n r hr

theorem exitRecord {n : Serial} (h : TracksCans s t) : TracksCans s (exitRecord n t) := by
  have hc : TracksCans s (Machine.confirmCheck n t) := .confirmCheck h
  unfold Machine.exitRecord
  dsimp only
  split
  · exact hc
  · rename_i r hr
    refine hc.move ?_
    rw [canReport_track]
    exact .exit n r hr

theorem recordPoints {n : Serial} (h : TracksCans s t) : TracksCans s (recordPoints t n) := by
  unfold Machine.recordPoints
  extract_lets afterPrint afterTrigger afterReader afterEye afterOwner afterGate
  have hPrint : TracksCans s afterPrint := .takePoint h .printPoint
  have hTrigger : TracksCans s afterTrigger := .takePoint hPrint fun h => h.leave (triggerPoint_track _)
  have hReader : TracksCans s afterReader := .takePoint hTrigger .writeCode
  have hEye : TracksCans s afterEye := .takePoint hReader .eyeClose
  have hOwner : TracksCans s afterOwner := .ownerPoints hEye
  have hGate : TracksCans s afterGate := .takePoint hOwner .gateDecision
  exact .takePoint hGate .exitRecord

theorem positionEvent {d : Direction} (h : TracksCans s t) : TracksCans s (positionEvent d t) := by
  unfold Machine.positionEvent
  split
  · exact h.foldl .recordPoints
  · exact h

/-! ### Discharges and arrivals -/

theorem trackDischarge {v : Nat} {b : Bool} (h : TracksCans s t) : TracksCans s (trackDischarge v b t) := by
  rcases trackDischarge_cases v b t with ⟨-, e⟩ | ⟨hl, rfl, hq⟩ | ⟨hl, rfl, hq⟩
  · rwa [e]
  · rw [trackDischarge_admits hl hq]
    exact h.move (.admission (admittedRecord v t) hl hq rfl)
  · rw [trackDischarge_overflows hl hq]
    refine h.move ?_
    rw [raise_track]
    exact .count _ t.track.untracked

theorem trackArrival {e : Count} (h : TracksCans s t) : TracksCans s (trackArrival e t) := by
  cases hl : t.track.line with
  | idle => rwa [trackArrival_idle hl]
  | run =>
    cases hm : matchingRecord t e with
    | some r =>
      rw [trackArrival_matched hl hm]
      have hw : TracksCans s
          (Machine.writeRecord r.serial (fun r => { r with eye := .arrived, arrival := some e }) t) :=
        h.writeRecord fun _ => rfl
      exact .becomeOwner (hw.move (.measure _ _ _)) hl
    | none =>
      rcases Nat.lt_or_ge t.track.queue.length 128 with hq | hq
      · rw [trackArrival_stray hl hm hq]
        have ht := strayTaken_track e t
        refine .becomeOwner (h.move ?_) (by rw [ht]; exact hl)
        rw [ht]
        exact .stray (strayRecord e t) hl hq rfl
      · have hu : TracksCans s (untrackedTaken t) := h.move (by
          rw [untrackedTaken_track]
          exact .count t.track.counters.overflow _)
        rw [trackArrival_untracked hl hm hq]
        exact (hu.told (engineUntracked_told _)).move .disown

/-! ### Input Unit -/

theorem deliverEdge {i : Input} {b : Bool} (h : TracksCans s t) : TracksCans s (deliverEdge i b t) := by
  unfold Machine.deliverEdge
  split
  · rw [dischargeEdge_eq]
    exact (TracksCans.trackDischarge (t := discharged t) h).leave (lagDecrement_track ..)
  · exact h.leave (homeEdge_track t)
  · exact .trackArrival h
  · exact .confirmAt h
  · exact h

theorem acceptInput {i : Input} (h : TracksCans s t) : TracksCans s (acceptInput i t) := .deliverEdge h

theorem inputPinEvent {i : Input} {b : Bool} (h : TracksCans s t) : TracksCans s (inputPinEvent i b t) := by
  unfold Machine.inputPinEvent
  refine .ite h ?_
  dsimp only
  split
  · exact .ite (.acceptInput h) h
  · exact h

theorem holdTimerEvent {i : Input} {b : Bool} (h : TracksCans s t) : TracksCans s (holdTimerEvent i b t) := by
  unfold Machine.holdTimerEvent
  dsimp only
  split
  · exact .ite (.acceptInput h) h
  · exact h

theorem countStep (h : TracksCans s t) : TracksCans s (countStep t).2 := h.leave (countStep_track t)

theorem deliverStep {d : Option Direction} (h : TracksCans s t) : TracksCans s (deliverStep d t) := by
  unfold Machine.deliverStep
  split
  · exact .positionEvent h
  · exact h.leave (raise_track ..)

theorem acceptPair (h : TracksCans s t) : TracksCans s (acceptPair t) := .deliverStep (.countStep h)

theorem encoderPinEvent {a b : Bool} (h : TracksCans s t) : TracksCans s (encoderPinEvent a b t) :=
  .ite h (.ite h (.ite (.acceptPair h) h))

theorem encoderStepEvent (h : TracksCans s t) : TracksCans s (encoderStepEvent t) := by
  unfold Machine.encoderStepEvent
  split
  · exact .acceptPair h
  · exact h

theorem arrivalEvent {b : Bool} (h : TracksCans s t) : TracksCans s (arrivalEvent b t) := by
  refine .ite ?_ (.holdTimerEvent h)
  unfold arrivalWithStep
  split
  · exact .ite (.deliverStep (.acceptInput (.countStep h))) h
  · exact h

theorem storeFilterTime {w : FilterInput} {n : Nat} (h : TracksCans s t) : TracksCans s (storeFilterTime w n t) := by
  cases w with
  | discrete i =>
    show TracksCans s (storeInputTime i n t)
    unfold storeInputTime
    dsimp only
    split
    · exact .ite (.acceptInput h) h
    · exact h
  | encoder =>
    show TracksCans s (storeEncoderTime n t)
    unfold storeEncoderTime
    dsimp only
    split
    · exact .ite (.acceptPair h) h
    · exact h

/-! ### START, STOP and the line reset -/

theorem startLine (h : TracksCans s t) : TracksCans s (startLine t).2 := by
  unfold Machine.startLine
  split
  · exact h
  · split
    · exact h
    · refine h.move ?_
      rw [raise_track]
      exact .start

theorem stopLine (h : TracksCans s t) : TracksCans s (stopLine t) := by
  cases hl : t.track.line with
  | idle => rwa [stopLine_idle hl]
  | run =>
    rw [stopLine_run hl]
    refine h.move ?_
    rw [raise_track]
    exact .stop

theorem lineReset {reply : State → State} (h : TracksCans s t) (hr : OnlyReplies reply) :
    TracksCans s (lineReset reply t) := by
  rw [lineReset_eq hr]
  exact h.move .lineReset

/-! ### Management Unit -/

theorem appendReply {d k : Byte} {a : Answer} (h : TracksCans s t) : TracksCans s (appendReply d k a t) :=
  h.leave (appendReply_track ..)

theorem takeRequest {src k : Byte} {perform : State → State} (h : TracksCans s t)
    (hp : ∀ {t}, TracksCans s t → TracksCans s (perform t)) : TracksCans s (takeRequest src k perform t) :=
  .ite h (.ite (hp h) (.ite (.appendReply h) h))

theorem writeTable {id : Nat} {refuse : List Entry → State → Option Refused} {store : List Entry → State → State}
    {first count : Byte} {d : List Byte} (h : TracksCans s t)
    (hs : ∀ {es t}, TracksCans s t → TracksCans s (store es t)) :
    TracksCans s (writeTable id refuse store first count d t) := by
  cases ht : tableShape id with
  | none =>
    simp only [Machine.writeTable, ht]
    exact .appendReply h
  | some shape =>
    rcases writeTable_cases id refuse store first count d t shape ht with ⟨st, x, e⟩ | ⟨-, e⟩
    · exact e ▸ .appendReply h
    · exact e ▸ .appendReply (hs h)

theorem storeRules {es : List Entry} (h : TracksCans s t) : TracksCans s (storeRules es t) :=
  h.foldl id

theorem writeRules {a b : Byte} {d : List Byte} (h : TracksCans s t) : TracksCans s (writeRules a b d t) :=
  .writeTable h .storeRules

theorem storeDistances {es : List Entry} (h : TracksCans s t) : TracksCans s (storeDistances es t) :=
  h.move (.measure _ _ _)

theorem writeDistances {a b : Byte} {d : List Byte} (h : TracksCans s t) : TracksCans s (writeDistances a b d t) :=
  .writeTable h .storeDistances

theorem storeSetting {e : Entry} (h : TracksCans s t) : TracksCans s (storeSetting e t) := by
  unfold Machine.storeSetting
  dsimp only
  split
  case h_1 => exact h.leave (storeValveCount_track ..)
  case h_8 => exact h.leave (storeSampleRate_track ..)
  case h_17 => exact h.leave (storeCodeEnable_track ..)
  case h_2 | h_3 | h_4 | h_5 | h_6 | h_7 => exact .storeFilterTime h
  all_goals exact h

theorem writeSettings {a b : Byte} {d : List Byte} (h : TracksCans s t) : TracksCans s (writeSettings a b d t) :=
  .writeTable h fun h => h.foldl .storeSetting

theorem writeStations {a b : Byte} {d : List Byte} (h : TracksCans s t) : TracksCans s (writeStations a b d t) :=
  .writeTable h id

theorem writeProducts {a b : Byte} {d : List Byte} (h : TracksCans s t) : TracksCans s (writeProducts a b d t) :=
  .writeTable h id

theorem writeTestWeights {a b : Byte} {d : List Byte} (h : TracksCans s t) :
    TracksCans s (writeTestWeights a b d t) := .writeTable h id

theorem writeEvents {a b : Byte} {d : List Byte} (h : TracksCans s t) : TracksCans s (writeEvents a b d t) :=
  .writeTable h id

theorem writeModes {a b : Byte} {d : List Byte} (h : TracksCans s t) : TracksCans s (writeModes a b d t) :=
  .writeTable h fun h => h.leave (storeModes_track ..)

theorem performTableWrite {d : List Byte} (h : TracksCans s t) : TracksCans s (performTableWrite d t) := by
  unfold Machine.performTableWrite
  split
  · split
    · exact .writeStations h
    · exact .writeSettings h
    · exact .writeDistances h
    · exact .writeRules h
    · exact .writeProducts h
    · exact .writeModes h
    · exact .writeTestWeights h
    · exact .writeEvents h
    · exact .appendReply h
  · exact .appendReply h

/-- CLEAR COUNTERS clears the untracked arrivals, and no can counter (R190). -/
theorem clearAllCounters (h : TracksCans s t) : TracksCans s (clearAllCounters t) :=
  h.move (.count t.track.counters.overflow _)

theorem actLineReset (h : TracksCans s t) : TracksCans s (actLineReset t) :=
  .lineReset h appendsReplies_lineReset.frame

theorem performCode {c : Byte} {d : List Byte} (h : TracksCans s t) : TracksCans s (performCode c d t) := by
  unfold Machine.performCode
  split
  case h_1 => exact .appendReply (.startLine h)
  case h_2 => exact .appendReply (.stopLine h)
  case h_3 => exact .actLineReset h
  case h_4 => exact .appendReply (.selectProduct h)
  case h_5 => exact h.leave (actZero_track t)
  case h_8 => exact .appendReply (h.leave (releaseValve_track ..))
  case h_9 => exact .appendReply (.clearValve h)
  case h_10 => exact .appendReply (h.leave (testModeOn_track t))
  case h_12 => exact .appendReply (.clearAllCounters h)
  case h_13 => exact .appendReply (h.leave (postCause_track ..))
  case h_6 | h_7 | h_11 => exact .appendReply h

theorem performAction {d : List Byte} (h : TracksCans s t) : TracksCans s (performAction d t) := by
  unfold Machine.performAction
  split
  · exact .appendReply h
  · split
    · exact .appendReply h
    · exact .ite (.performCode h) (.appendReply h)

theorem performTableRead {d : List Byte} (h : TracksCans s t) : TracksCans s (performTableRead d t) := .appendReply h

theorem performIdentify {d : List Byte} (h : TracksCans s t) : TracksCans s (performIdentify d t) :=
  h.leave (performIdentify_track ..)

theorem manageFrame {src k : Byte} {d : List Byte} (h : TracksCans s t) : TracksCans s (manageFrame src k d t) :=
  .ite (.takeRequest h .performTableRead) (.ite (.takeRequest h .performTableWrite)
    (.ite (.takeRequest h .performAction) (.takeRequest h .performIdentify)))

/-! ### Pass Stage and Ring Port -/

theorem sendOn {f : List Byte} (h : TracksCans s t) : TracksCans s (sendOn f t) := h.leave (sendOn_track ..)

theorem ringFault {f : RingFault} (h : TracksCans s t) : TracksCans s (ringFault f t) := h.leave (ringFault_track ..)

theorem addressedFrame {f : List Byte} (h : TracksCans s t) : TracksCans s (addressedFrame f t) :=
  .ite (.ite (.takeAck h) h) (.ite (.manageFrame h) (.ite (h.leave (unknownKindEvent_track ..)) h))

theorem snoopCopy {f : List Byte} (h : TracksCans s t) : TracksCans s (snoopCopy f t) :=
  .ite (.ite (.snoopedProduct h) h) h

theorem rewritePair {p : List Byte} (h : TracksCans s t) : TracksCans s (rewritePair p t).2 := by
  unfold Machine.rewritePair
  dsimp only
  split
  · exact .captureBase h
  · exact h

theorem rewritePairs {ps : List (List Byte)} (h : TracksCans s t) : TracksCans s (rewritePairs ps t).2 := by
  induction ps generalizing t with
  | nil => exact h
  | cons p ps ih => exact ih (.rewritePair h)

theorem trimDecision {f : List Byte} (h : TracksCans s t) : TracksCans s (trimDecision f t) :=
  .ite (.sendOn h) (.ite (.sendOn (TracksCans.rewritePairs h :)) (.sendOn h))

theorem passFrame {f : List Byte} (h : TracksCans s t) : TracksCans s (passFrame f t) := by
  unfold Machine.passFrame
  refine .ite (.sendOn h) (.ite h (.ite (.addressedFrame h) ?_))
  split
  · exact .sendOn h
  · exact .sendOn h
  · exact h
  · exact .sendOn (.snoopCopy h)
  · exact .trimDecision h

theorem completeFrame {f : List Byte} {b : Bool} (h : TracksCans s t) : TracksCans s (completeFrame f b t) :=
  .ite (.passFrame (.ite h h)) (.ringFault h)

theorem assemble {d : Byte} {mark sound noisy : Bool} (h : TracksCans s t) :
    TracksCans s (assemble d mark sound noisy t) := by
  unfold Machine.assemble
  split
  · exact .ite h h
  · exact .ite (.ringFault h) (.ite (ringFault (f := .truncated) h)
      (.ite (.ringFault h) (.ite (.completeFrame h) h)))
  · exact .ite h h

theorem ringCharacterEvent {c : RingSamples} (h : TracksCans s t) : TracksCans s (ringCharacterEvent c t) := by
  unfold Machine.ringCharacterEvent
  refine .ite h ?_
  split
  · exact h.leave (falseStart_track t)
  · exact h.leave (ringBreakDetected_track t)
  · exact .assemble h

theorem frameCompleteEvent {d : Byte} {b : Bool} (h : TracksCans s t) : TracksCans s (frameCompleteEvent d b t) := by
  unfold Machine.frameCompleteEvent
  split
  · exact .ite (.completeFrame h) h
  all_goals exact h

theorem longBreakEvent (h : TracksCans s t) : TracksCans s (longBreakEvent t) := by
  unfold Machine.longBreakEvent
  split
  · exact .lineReset h fun _ => rfl
  · exact h

/-! ### Every command -/

/-- The frame around an event adds no move. -/
theorem event {f : State → State} (hf : ∀ {t}, TracksCans s t → TracksCans s (f t)) (e : event f s = .next t) :
    TracksCans s t := by
  unfold Machine.event at e
  split at e <;> cases e
  · exact .refl s
  · exact (hf (.refl s)).leave (arbitrate_track _)

/-- An event that leaves the Tracking Unit as it is. -/
theorem quietEvent {f : State → State} (hf : ∀ s, (f s).track = s.track) (e : Machine.event f s = .next t) :
    TracksCans s t := event (fun h => h.leave (hf _)) e

/-- A request moves as its performance does. -/
theorem request {src k : Byte} {perform : State → State} (hp : ∀ {t}, TracksCans s t → TracksCans s (perform t))
    (e : Machine.event (Machine.takeRequest src k perform) s = .next t) : TracksCans s t :=
  event (fun h => .takeRequest h hp) e

theorem resetAsserted (e : execResetAsserted s = .next t) : TracksCans s t := by
  unfold execResetAsserted at e
  split at e <;> cases e <;> exact refl s

/-- What any command does to the Tracking Unit is a run of moves. -/
theorem exec (c : Instr) (e : exec c s = .next t) : TracksCans s t := by
  cases c with
  | hardReset p =>
    cases e
    exact (refl s).move .hardReset
  | resetAsserted => exact .resetAsserted e
  | ringCharacter => exact event .ringCharacterEvent e
  | frameComplete => exact event .frameCompleteEvent e
  | longBreak => exact event .longBreakEvent e
  | interCharacterTimeout => exact quietEvent (interCharacterEvent_track · _) e
  | ringBreak => exact quietEvent ringBreakEvent_track e
  | resync => exact quietEvent (resyncEvent_track · _) e
  | longBreakEnd => exact quietEvent (longBreakEndEvent_track · _) e
  | gap => exact quietEvent gapEvent_track e
  | frameSent => exact quietEvent frameSentEvent_track e
  | relayEnd => exact quietEvent relayEndEvent_track e
  | noticeRetry => exact quietEvent noticeRetryEvent_track e
  | ringFalseStart => exact quietEvent falseStartEvent_track e
  | inputPinChange => exact event .inputPinEvent e
  | discharge | homeEdge | confirmEvent | pocketChange | acceptedFallingEdge => exact event .holdTimerEvent e
  | arrival => exact event .arrivalEvent e
  | encoderPinChange => exact event .encoderPinEvent e
  | encoderStep => exact event .encoderStepEvent e
  | sampleFrame => exact quietEvent (sampleFrameEvent_track · _) e
  | shortFrame => exact quietEvent shortFrameEvent_track e
  | sampleLoss => exact quietEvent sampleLossEvent_track e
  | codeCharacter => exact event .codeCharacterEvent e
  | codeBreak => exact event .codeBreakEvent e
  | codeBreakEnd => exact quietEvent codeBreakEndEvent_track e
  | codeLineHigh => exact quietEvent codeLineHighEvent_track e
  | idleTimerExpiry => exact event .idleTimerEvent e
  | triggerSent => exact quietEvent (triggerSentEvent_track · _) e
  | exchangeTimeout => exact event (fun h => .ite (h.leave (exchangeTimeoutEvent_track ..)) h) e
  | rejectPulseExpiry => exact quietEvent rejectPulseEvent_track e
  | fillAck => exact event (fun h => .ite h (.takeAck h)) e
  | unknownKindRequest => exact quietEvent (unknownKindEvent_track · _) e
  | identify => exact request .performIdentify e
  | tableRead => exact request .performTableRead e
  | stationsWrite => exact request .writeStations e
  | distancesWrite => exact request .writeDistances e
  | passRulesWrite => exact request .writeRules e
  | productsWrite => exact request .writeProducts e
  | valveModeWrite => exact request .writeModes e
  | testWeightsWrite => exact request .writeTestWeights e
  | eventsWrite => exact request .writeEvents e
  | settingsWrite | valveCountWrite | filterTimeWrite | sampleRateWrite | weighingSettingsWrite
  | calibrationFactorWrite | lotStringWrite | codePortConfigWrite | codePortEnable => exact request .writeSettings e
  | start => exact request (fun h => .appendReply (.startLine h)) e
  | stop => exact request (fun h => .appendReply (.stopLine h)) e
  | lineResetAction => exact request .actLineReset e
  | selectProduct => exact request (fun h => .appendReply (.selectProduct h)) e
  | zero => exact request (fun h => h.leave (actZero_track _)) e
  | clearStop => exact request (perform := actClearStop) (fun h => .appendReply h) e
  | clearEvents _ set => exact request (perform := actClearEvents set) (fun h => .appendReply h) e
  | testOff => exact request (perform := actTestOff) (fun h => .appendReply h) e
  | valveRelease => exact request (fun h => .appendReply (h.leave (releaseValve_track ..))) e
  | valveClear => exact request (fun h => .appendReply (.clearValve h)) e
  | testOn => exact request (fun h => .appendReply (h.leave (testModeOn_track _))) e
  | clearCounters => exact request (fun h => .appendReply (.clearAllCounters h)) e
  | stopRequest => exact request (fun h => .appendReply (h.leave (postCause_track ..))) e
  | badTableWrite => exact request .performTableWrite e
  | unknownActionCode => exact request .performAction e

/-- What a step does to the Tracking Unit is a run of moves. -/
theorem step (e : step s = .next t) : TracksCans s t := by
  unfold Machine.step at e
  split at e
  · rename_i c rest _
    have h : TracksCans { s with pending := rest } t := exec c e
    exact h
  · cases e
    exact refl s

end TracksCans

/-- Settles O55: every move keeps the balance. -/
theorem cansStayBalanced : Obligations.CansStayBalanced :=
  fun _ _ hs e => (TracksCans.step e).keeps (P := TrackingUnit.Balanced) TrackMove.keeps_balanced hs

/-- Settles O57: every move keeps IDLE empty, the serials distinct and the queue within its capacity. -/
theorem trackingQueueStaysSound : Obligations.TrackingQueueStaysSound :=
  fun _ _ hidle hserials e =>
    (TracksCans.step e).keeps (P := TrackingUnit.Sound) TrackMove.keeps_sound ⟨hidle, hserials⟩

end Sys2Proof.Machine
end

section
/-! PROOFS. START and its five conditions, and the Tracking Unit at reset (R58, R86): O5 and O28. -/

namespace Sys2Proof.Machine

/-! ## The conditions of START (Table 4-2) -/

section
variable {s : State}

theorem startRefusal_noProduct (h : s.dose.active = none) : startRefusal s = some 1 := by
  simp [startRefusal, h, detailNoProduct]

variable (hp : s.dose.active ≠ none)
include hp

theorem startRefusal_distances (h : distancesValid s.track.distances = false) : startRefusal s = some 2 := by
  simp [startRefusal, hp, h, detailDistances]

variable (hd : distancesValid s.track.distances = true)
include hd

theorem startRefusal_stations (h : s.mgmt.filler = 0 ∨ s.mgmt.coder = 0) : startRefusal s = some 3 := by
  have hunset : (s.mgmt.filler == 0 || s.mgmt.coder == 0) = true := by simpa using h
  unfold startRefusal
  rw [hunset]
  simp [hp, hd, detailStations]

variable (hf : s.mgmt.filler ≠ 0) (hc : s.mgmt.coder ≠ 0)
include hf hc

theorem startRefusal_stationsSet : startRefusal s =
    if s.dose.valveCount = 0 then some 4 else if s.weigh.factor = 0 then some 5 else none := by
  have hset : (s.mgmt.filler == 0 || s.mgmt.coder == 0) = false := by simpa using ⟨hf, hc⟩
  unfold startRefusal
  rw [hset]
  simp [hp, hd, detailValveCount, detailCalibration]

theorem startRefusal_valveCount (h : s.dose.valveCount = 0) : startRefusal s = some 4 := by
  rw [startRefusal_stationsSet hp hd hf hc, if_pos h]

variable (hv : s.dose.valveCount ≠ 0)
include hv

theorem startRefusal_calibration (h : s.weigh.factor = 0) : startRefusal s = some 5 := by
  rw [startRefusal_stationsSet hp hd hf hc, if_neg hv, if_pos h]

theorem startRefusal_none (h : s.weigh.factor ≠ 0) : startRefusal s = none := by
  rw [startRefusal_stationsSet hp hd hf hc, if_neg hv, if_neg h]

end

/-- START is refused while one of the five is missing. -/
theorem startRefusal_missing {s : State}
    (h : s.dose.active = none ∨ distancesValid s.track.distances = false ∨ s.mgmt.filler = 0 ∨ s.mgmt.coder = 0
      ∨ s.dose.valveCount = 0 ∨ s.weigh.factor = 0) : ∃ d, startRefusal s = some d := by
  by_cases hp : s.dose.active = none
  · exact ⟨1, startRefusal_noProduct hp⟩
  by_cases hd : distancesValid s.track.distances = false
  · exact ⟨2, startRefusal_distances hp hd⟩
  have hd' : distancesValid s.track.distances = true := by simpa using hd
  by_cases hst : s.mgmt.filler = 0 ∨ s.mgmt.coder = 0
  · exact ⟨3, startRefusal_stations hp hd' hst⟩
  obtain ⟨hf, hc⟩ := not_or.mp hst
  by_cases hv : s.dose.valveCount = 0
  · exact ⟨4, startRefusal_valveCount hp hd' hf hc hv⟩
  have hw : s.weigh.factor = 0 :=
    ((((h.resolve_left hp).resolve_left hd).resolve_left hf).resolve_left hc).resolve_left hv
  exact ⟨5, startRefusal_calibration hp hd' hf hc hv hw⟩

/-! ## START (R58) -/

section
variable {s : State}

theorem startLine_run (h : s.track.line = .run) : startLine s = ((.ok, 0), s) := by simp [startLine, h]

theorem startLine_refused (h : s.track.line = .idle) {d : Byte} (hr : startRefusal s = some d) :
    startLine s = ((.notReady, d), s) := by simp [startLine, h, hr]

theorem startLine_idle (h : s.track.line = .idle) (hr : startRefusal s = none) :
    startLine s = ((.ok, 0), raise .lineRunOn { s with track.line := .run }) := by simp [startLine, h, hr]

theorem taken_start (h : Listening s) {st : Status} {d : Byte} {t : State}
    (ht : startLine (counted s) = ((st, d), t)) : Taken (.start 0) s (actionAnswer 1 st d t) :=
  taken_of_request (perform := actStart) rfl h (by rw [actStart, ht]; rfl)

theorem taken_start_refused (h : Listening s) (hl : s.track.line = .idle) {d : Byte}
    (hr : startRefusal s = some d) : Taken (.start 0) s (actionAnswer 1 .notReady d (counted s)) :=
  taken_start h (startLine_refused (s := counted s) hl hr)

end

/-- Settles O28, condition by condition. -/
theorem startNeedsFiveConditions : Obligations.StartNeedsFiveConditions :=
  fun s h => ⟨fun hl => taken_start h (startLine_run (s := counted s) hl), fun hl =>
    have refused {d : Byte} : startRefusal s = some d → _ := taken_start_refused h hl
    ⟨fun hp => refused (startRefusal_noProduct hp),
      fun hp hd => refused (startRefusal_distances hp hd),
      fun hp hd hst => refused (startRefusal_stations hp hd hst),
      fun hp hd hf hc hv => refused (startRefusal_valveCount hp hd hf hc hv),
      fun hp hd hf hc hv hw => refused (startRefusal_calibration hp hd hf hc hv hw),
      fun hp hd hf hc hv hw =>
        taken_start h (startLine_idle (s := counted s) hl (startRefusal_none (s := counted s) hp hd hf hc hv hw))⟩⟩

/-- Every entry of the Distance Table is unset at the end of a hard reset (R67). -/
theorem distance_afterReset (p : Pins) (q : List Instr) (i : Nat) : (State.afterReset p q).distance i = none := by
  simp only [State.distance, State.afterReset, TrackingUnit.reset, List.getD_eq_getElem?_getD, List.getElem?_replicate]
  split <;> rfl

/-- Settles O5. -/
theorem trackingAtHardReset : Obligations.TrackingAtHardReset := by
  refine ⟨fun p s => ⟨State.afterReset p s.pending, rfl, rfl, rfl, rfl, rfl, fun i _ => distance_afterReset p _ i, rfl,
    rfl, rfl, rfl⟩, fun c s h hc => ⟨s, exec_resetLow h hc, rfl⟩, fun s h hl hmissing => ?_⟩
  obtain ⟨d, hd⟩ := startRefusal_missing hmissing
  exact ⟨d, taken_start_refused h hl hd⟩

end Sys2Proof.Machine
end

section
/-! PROOFS. TABLE WRITES to STATIONS and DISTANCES (R67 to R69, R186, R187): O48. -/

namespace Sys2Proof.Machine

/-! ## STATIONS (R187) -/

section
variable {s : State} {a b : Byte}

/-- The entries of a write of both stations. -/
def bothStations (a b : Byte) : List Entry := [(0, [a]), (1, [b])]

theorem writeStations_stored (h : refuseStations (bothStations a b) s = none) :
    writeStations 0 2 [a, b] s = wroteReply 1 0 2 { s with mgmt.filler := a, mgmt.coder := b } := by
  have he : entriesOf 1 (0 : Byte).toNat (2 : Byte).toNat [a, b] = bothStations a b := rfl
  simp only [writeStations, writeTable, tableShape, he, h]
  rfl

theorem writeStations_refused {st : Status} {d : Byte} (h : refuseStations (bothStations a b) s = some (st, d)) :
    writeStations 0 2 [a, b] s = refusedReply st d 1 0 2 s := by
  have he : entriesOf 1 (0 : Byte).toNat (2 : Byte).toNat [a, b] = bothStations a b := rfl
  simp only [writeStations, writeTable, tableShape, he, h]
  rfl

theorem refuseStations_run (h : s.track.line = .run) : refuseStations (bothStations a b) s = some (.inUse, 0) := by
  simp only [refuseStations, h]
  rfl

variable (hl : s.track.line = .idle)
include hl

theorem refuseStations_filler (ha : 63 ≤ a.toNat ∨ a = s.mgmt.ownStation) :
    refuseStations (bothStations a b) s = some (.badValue, 0) := by
  simp [refuseStations, hl, bothStations, firstRefusal, byteAt, ha]

variable (ha : a.toNat < 63) (hao : a ≠ s.mgmt.ownStation)
include ha hao

theorem refuseStations_coder (hb : 63 ≤ b.toNat ∨ b = s.mgmt.ownStation) :
    refuseStations (bothStations a b) s = some (.badValue, 1) := by
  simp [refuseStations, hl, bothStations, firstRefusal, byteAt, Nat.not_le.mpr ha, hao, hb]

theorem refuseStations_same (h0 : a ≠ 0) : refuseStations (bothStations a a) s = some (.badValue, 0) := by
  simp [refuseStations, hl, bothStations, firstRefusal, byteAt, Nat.not_le.mpr ha, hao, stationsAfter, lowestIndex,
    refuseAt]
  exact h0

theorem refuseStations_none (hb : b.toNat < 63) (hbo : b ≠ s.mgmt.ownStation) (hab : a ≠ b ∨ a = 0) :
    refuseStations (bothStations a b) s = none := by
  simp [refuseStations, hl, bothStations, firstRefusal, byteAt, Nat.not_le.mpr ha, hao, Nat.not_le.mpr hb, hbo,
    stationsAfter]
  exact fun e h0 => absurd (hab.resolve_left (not_not_intro e)) h0

end

/-! ## DISTANCES (R68) -/

theorem distanceInRange_lt {i d : Nat} (h : distanceInRange i d = true) : d < 256 ^ 4 := by
  unfold distanceInRange at h
  split_ifs at h <;> simp at h <;> omega

/-- The lowest written entry of a failing condition is the only one written. -/
theorem failingEntry_one (e : Entry) (t : List (Option Nat)) :
    failingEntry [e] t = if (orderConditions t).all (fun c => c.2) = true then none else some e.1 := by
  unfold failingEntry
  dsimp only
  generalize orderConditions t = cs
  have hbad : (cs.filter (fun c => !c.2)).isEmpty = cs.all (fun c => c.2) := by
    rw [Bool.eq_iff_iff, List.isEmpty_iff, List.filter_eq_nil_iff, List.all_eq_true]
    simp
  rw [hbad]
  split
  · rfl
  · simp only [List.map_cons, List.map_nil, List.find?_cons, List.find?_nil, lowestIndex]
    split <;> rfl

section
variable {s : State} {i : Nat} {data : List Byte} {d : Nat}

theorem refuseDistances_run (h : s.track.line = .run) : refuseDistances [(i, data)] s = refuseAt .inUse i := by
  simp [refuseDistances, h, lowestIndex]

variable (hl : s.track.line = .idle)
include hl

theorem refuseDistances_range (h : distanceInRange i (leNat data) = false) :
    refuseDistances [(i, data)] s = refuseAt .badValue i := by
  simp [refuseDistances, hl, firstRefusal_one, h, refuseAt]

theorem refuseDistances_order (hr : distanceInRange i (leNat data) = true)
    (h : (orderConditions (distancesAfter [(i, data)] s.track.distances)).all (fun c => c.2) = false) :
    refuseDistances [(i, data)] s = refuseAt .badValue i := by
  simp only [refuseDistances, hl, firstRefusal_one, hr, failingEntry_one, h]
  rfl

theorem refuseDistances_none (hr : distanceInRange i (leNat data) = true)
    (h : (orderConditions (distancesAfter [(i, data)] s.track.distances)).all (fun c => c.2) = true) :
    refuseDistances [(i, data)] s = none := by
  simp only [refuseDistances, hl, firstRefusal_one, hr, failingEntry_one, h]
  rfl

end

/-- A stored distance; Dp empties the learned-distance list (R68, R69). -/
theorem storeDistances_distance {i : Byte} (hi : i.toNat ≤ 10) (data : List Byte) (s : State) :
    storeDistances [(i.toNat, data)] s = { s with
      track.distances := s.track.distances.set i.toNat (some (leNat data))
      track.learned := if i = 4 then [] else s.track.learned } := by
  have h11 : i.toNat ≠ 11 := by omega
  have h4 : (i.toNat == 4) = decide (i = 4) := by
    rw [Bool.eq_iff_iff, beq_iff_eq, decide_eq_true_iff, BitVec.toNat_eq]
    rfl
  simp [storeDistances, distancesAfter, h11, h4]

/-- The supervisor's write of entry i of DISTANCES. -/
theorem writesDistance (i : Byte) {data : List Byte} (hi : i.toNat ≤ 11) (hd : data.length = 4) :
    WritesEntry (.distancesWrite 0 i 1 data) 3 refuseDistances storeDistances i data :=
  ⟨fun _ => rfl, _, rfl, hd, Nat.zero_le _, hi⟩

/-- Settles O48: both stations at once by the order of their tests, and one entry of DISTANCES by its range and the
order conditions that it leaves. -/
theorem stationsAndDistancesWritten : Obligations.StationsAndDistancesWritten := by
  intro s h
  have hstation (a b : Byte) {t : State} (ht : writeStations 0 2 [a, b] (counted s) = t) :
      Taken (.stationsWrite 0 0 2 [a, b]) s t := taken_of_request (perform := writeStations 0 2 [a, b]) rfl h ht
  have hafter {i : Byte} (hi : i.toNat ≤ 10) (d : Nat) (hd : d < 256 ^ 4) :
      distancesAfter [(i.toNat, leBytes 4 d)] s.track.distances = s.track.distances.set i.toNat (some d) := by
    have hset : distancesAfter [(i.toNat, leBytes 4 d)] s.track.distances =
        s.track.distances.set i.toNat (some (leNat (leBytes 4 d))) :=
      congrArg (·.track.distances) (storeDistances_distance hi (leBytes 4 d) s)
    rwa [leNat_leBytes 4 d hd] at hset
  refine ⟨fun a b hl ha hb hao hbo hab => ?stations, fun a b hl => ⟨fun ha => ?filler, fun ha hao hb => ?coder,
    fun ha hao h0 => ?same⟩, fun a b hl => ?stationsInUse, fun i d hl _ hi hr ho => ?distance,
    fun i d hl hi hr ho => ?order, fun d hl hd ho => ?override, fun i d hl hi hd hr => ?range,
    fun i data hl hi hd => ?distancesInUse⟩
  case stations =>
    exact hstation a b (writeStations_stored (refuseStations_none (s := counted s) hl ha hao hb hbo hab))
  case filler => exact hstation a b (writeStations_refused (refuseStations_filler (s := counted s) hl ha))
  case coder => exact hstation a b (writeStations_refused (refuseStations_coder (s := counted s) hl ha hao hb))
  case same => exact hstation a a (writeStations_refused (refuseStations_same (s := counted s) hl ha hao h0))
  case stationsInUse => exact hstation a b (writeStations_refused (refuseStations_run (s := counted s) hl))
  case distance =>
    have hd := distanceInRange_lt hr
    have hval := leNat_leBytes 4 d hd
    refine taken_of_stored (writesDistance i (by omega) (length_leBytes 4 d)) h
      (refuseDistances_none (s := counted s) hl (by rw [hval]; exact hr) ?_) ?_
    · rw [counted_track, hafter hi d hd]
      exact ho
    · rw [storeDistances_distance hi, hval]
      rfl
  case order =>
    have hd := distanceInRange_lt hr
    refine taken_of_refused (writesDistance i (by omega) (length_leBytes 4 d)) h
      (refuseDistances_order (s := counted s) hl (by rw [leNat_leBytes 4 d hd]; exact hr) ?_)
    rw [counted_track, hafter hi d hd]
    exact ho
  case override =>
    have hval := leNat_leBytes 4 d (by omega)
    refine taken_of_stored (writesDistance 11 (by decide) (length_leBytes 4 d)) h
      (refuseDistances_none (s := counted s) hl ?_ ho) ?_
    · rw [hval]
      simpa [distanceInRange] using hd
    · unfold storeDistances
      simp only [List.foldl_cons, List.foldl_nil, hval]
      rfl
  case range =>
    exact taken_of_refused (writesDistance i hi (length_leBytes 4 d)) h
      (refuseDistances_range (s := counted s) hl (by rw [leNat_leBytes 4 d hd]; exact hr))
  case distancesInUse =>
    exact taken_of_refused (writesDistance i hi hd) h (refuseDistances_run (s := counted s) hl)

end Sys2Proof.Machine
end

section
/-! PROOFS. Station points: each taken once and in order, and what the window closes do (R57, R71 to R77, R83, R176 to
R178, R193): O26 and O27. -/

namespace Sys2Proof.Machine

/-! ## One point (R71) -/

theorem reached_iff {count p : Count} : reached count p = true ↔ (count - p).toNat < 2 ^ 31 := decide_eq_true_iff

section
variable {n : Serial} {passed : PointsPassed → Bool} {mark : PointsPassed → PointsPassed}
  {position : CanRecord → Option Count} {act : State → State} {s : State}

theorem takePoint_gone (h : findRecord n s.track.queue = none) : takePoint n passed mark position act s = s := by
  simp [takePoint, h]

variable {r : CanRecord} (h : findRecord n s.track.queue = some r)
include h

theorem takePoint_nowhere (hp : position r = none) : takePoint n passed mark position act s = s := by
  simp [takePoint, h, hp]

variable {p : Count} (hp : position r = some p)
include hp

theorem takePoint_passed (ht : passed r.passed = true) : takePoint n passed mark position act s = s := by
  simp [takePoint, h, hp, ht]

theorem takePoint_ahead (ht : 2 ^ 31 ≤ (s.input.count - p).toNat) : takePoint n passed mark position act s = s := by
  have hr : reached s.input.count p = false := decide_eq_false (Nat.not_lt.mpr ht)
  simp [takePoint, h, hp, hr]

theorem takePoint_reached (ht : passed r.passed = false) (hr : (s.input.count - p).toNat < 2 ^ 31) :
    takePoint n passed mark position act s =
      act { s with track.queue := updateRecord n (fun r => { r with passed := mark r.passed }) s.track.queue } := by
  have hr := reached_iff.mpr hr
  simp only [takePoint, h, hp, ht, hr]
  rfl

end

/-! ## The owner's points (R75) -/

section
variable {n : Serial} {s : State} {o : WindowOwner}

theorem engineOpen_input (s : State) : (engineOpen s).input = s.input := by
  unfold engineOpen
  split <;> rfl

theorem ownerPoints_other (h : ∀ o, s.track.owner = some o → o.serial ≠ n) : ownerPoints n s = s := by
  unfold ownerPoints
  cases ho : s.track.owner with
  | none => simp [ho]
  | some o => simp [ho, h o ho]

variable (h : s.track.owner = some o) (hn : o.serial = n)
include h hn

theorem ownerPoints_opened (ho : o.opened = true) :
    ownerPoints n s = if (s.input.count - o.closePoint).toNat < 2 ^ 31 then closeOwner s else s := by
  simp only [← reached_iff]
  simp [ownerPoints, h, hn, ho]

variable (ho : o.opened = false)
include ho

theorem ownerPoints_ahead (hr : 2 ^ 31 ≤ (s.input.count - o.openPoint).toNat) : ownerPoints n s = s := by
  have hr : reached s.input.count o.openPoint = false := decide_eq_false (Nat.not_lt.mpr hr)
  simp [ownerPoints, h, hn, ho, hr]

/-- A close point that is reached together with the open point follows it. -/
theorem ownerPoints_opens (hr : (s.input.count - o.openPoint).toNat < 2 ^ 31) : ownerPoints n s =
    if (s.input.count - o.closePoint).toNat < 2 ^ 31 then closeOwner (openOwner o s) else openOwner o s := by
  have hr := reached_iff.mpr hr
  have howner : (openOwner o s).track.owner = some { o with opened := true } := by
    rw [openOwner, engineOpen_track]
  have hcount : (openOwner o s).input.count = s.input.count := by rw [openOwner, engineOpen_input]
  simp only [← reached_iff]
  simp [ownerPoints, h, hn, ho, hr, howner, hcount]

end

/-! ## The distances that the points read (R67, R71) -/

/-- Distances read after a point are those before it, where the Distance Table is. -/
theorem distance_congr {s t : State} (h : t.track.distances = s.track.distances) (i : Nat) :
    t.distance i = s.distance i := congrArg (·.getD i none) h

theorem takePoint_distances {n : Serial} {p : PointsPassed → Bool} {m : PointsPassed → PointsPassed}
    {q : CanRecord → Option Count} {act : State → State} {s u : State}
    (ha : ∀ t, (act t).track.distances = t.track.distances) (h : s.track.distances = u.track.distances) :
    (takePoint n p m q act s).track.distances = u.track.distances := by
  unfold takePoint
  split
  · exact h
  · split
    · exact h
    · split
      · exact (ha _).trans h
      · exact h

section
variable (n : Serial) (s : State)

theorem printPoint_distances : (printPoint n s).track.distances = s.track.distances := by
  unfold printPoint
  split
  · rfl
  · rename_i r _
    dsimp only
    rcases appendUrgent_cases (printFrame s r s.code.lot) s with ⟨h, -⟩ | ⟨h, -⟩ <;> rw [h] <;> rfl

theorem eyeClose_distances : (eyeClose n s).track.distances = s.track.distances := by
  unfold eyeClose loseRecord
  split
  · rfl
  · split
    · rw [lostRunLoss_track, canReport_track, raise_track]
    · rfl

theorem engineClose_distances : (engineClose s).track.distances = s.track.distances := by
  unfold engineClose
  split
  · obtain ⟨c, w, hw⟩ := finishWindow_eq _ _ _ _ _ { s with weigh.slot := .none }
    rw [hw]
    rfl
  · rfl

theorem ownerPoints_distances : (ownerPoints n s).track.distances = s.track.distances := by
  have hopen (o : WindowOwner) : (openOwner o s).track.distances = s.track.distances := by
    rw [openOwner, engineOpen_track]
  unfold ownerPoints
  extract_lets u
  have hu : u.track.distances = s.track.distances := by
    unfold u
    split
    · split
      · exact hopen _
      · rfl
    · rfl
  split
  · split
    · exact (engineClose_distances _).trans hu
    · exact hu
  · exact hu

theorem gateDecision_distances : (gateDecision n s).track.distances = s.track.distances := by
  unfold gateDecision
  split
  · rfl
  · dsimp only
    split_ifs <;> simp

end

/-! ## The points of a record, in order (Table 4-5) -/

/-- A point of the same record taken at the same position of the same state. -/
theorem takePoint_congr {n : Serial} {p : PointsPassed → Bool} {m : PointsPassed → PointsPassed}
    {q q' : CanRecord → Option Count} {act : State → State} {s t : State} (hs : s = t) (hq : ∀ r, q r = q' r) :
    takePoint n p m q act s = takePoint n p m q' act t := by rw [hs, funext hq]

/-- Settles O26: each point by what keeps it from being taken, their order with the distances that no point changes, and
the owner's two points. -/
theorem stationPointsActOnce : Obligations.StationPointsActOnce := by
  refine ⟨fun n passed mark position act s r p hf hp =>
      ⟨takePoint_passed hf hp, takePoint_ahead hf hp, takePoint_reached hf hp⟩,
    positionEvent_reverse, fun d s hl => ?idle, fun s hl => ?forward,
    fun n passed mark position act s => ⟨takePoint_gone, fun r => takePoint_nowhere⟩, fun s n => ?order,
    fun s n => ⟨ownerPoints_other, fun o ho hn =>
      ⟨ownerPoints_ahead ho hn, ownerPoints_opens ho hn, ownerPoints_opened ho hn⟩⟩⟩
  case idle => simp [positionEvent, hl]
  case forward => simp [positionEvent, hl]
  case order =>
    intro s1 s2 s3 s4 s5 s6
    have d1 : s1.track.distances = s.track.distances := takePoint_distances (printPoint_distances n) rfl
    have d2 : s2.track.distances = s.track.distances :=
      takePoint_distances (fun t => by rw [triggerPoint_track]) d1
    have d3 : s3.track.distances = s.track.distances := takePoint_distances (fun _ => rfl) d2
    have d4 : s4.track.distances = s.track.distances := takePoint_distances (eyeClose_distances n) d3
    have d5 : s5.track.distances = s.track.distances := (ownerPoints_distances n s4).trans d4
    have d6 : s6.track.distances = s.track.distances := takePoint_distances (gateDecision_distances n) d5
    unfold recordPoints
    extract_lets p1 p2 p3 p4 p5 p6
    have h2 : p2 = s2 := takePoint_congr rfl fun r => by
      rw [show p1.dt = s.dt from distance_congr d1 1]
      rfl
    have h3 : p3 = s3 := takePoint_congr h2 fun r => by
      rw [h2, show s2.dr = s.dr from distance_congr d2 2, show s2.wr = s.wr from distance_congr d2 3]
      cases s.dr <;> cases s.wr <;> rfl
    have h4 : p4 = s4 := takePoint_congr h3 fun r => by
      rw [h3, show s3.wp = s.wp from distance_congr d3 5]
      rfl
    have h5 : p5 = s5 := congrArg (ownerPoints n) h4
    have h6 : p6 = s6 := takePoint_congr h5 fun r => by
      rw [h5, show s5.dg = s.dg from distance_congr d5 8]
      rfl
    refine takePoint_congr h6 fun r => ?_
    unfold fromArrival
    rw [h6, show s6.dk = s.dk from distance_congr d6 9, show s6.wk = s.wk from distance_congr d6 10]
    cases r.arrival <;> cases s.dk <;> cases s.wk <;> rfl

/-! ## The confirm check (R176) -/

/-- A write that keeps the serial leaves the removal of the record what it was. -/
theorem removeRecord_updateRecord {n : Serial} {f : CanRecord → CanRecord} (h : ∀ r, (f r).serial = r.serial)
    (q : List CanRecord) : removeRecord n (updateRecord n f q) = removeRecord n q := by
  induction q with
  | nil => rfl
  | cons r q ih => by_cases hr : (r.serial == n) = true <;> simp [updateRecord, removeRecord, hr, h, ih]

/-- NOT_SEEN written where the confirm state of the record is absent (R176). -/
def confirmNoted (n : Serial) (r : CanRecord) (s : State) : State :=
  if r.confirm = none then
    { s with track.queue := updateRecord n (fun r => { r with confirm := some .notSeen }) s.track.queue }
  else s

section
variable {n : Serial} {r : CanRecord} {s : State}

theorem confirmNoted_absent (h : r.confirm = none) : confirmNoted n r s =
    { s with track.queue := updateRecord n (fun r => { r with confirm := some .notSeen }) s.track.queue } := if_pos h

theorem confirmNoted_present {c : ConfirmState} (h : r.confirm = some c) : confirmNoted n r s = s :=
  if_neg (by simp [h])

theorem confirmNoted_verdict : (confirmNoted n r s).verdict = s.verdict := by
  unfold confirmNoted
  split <;> rfl

/-- What the confirm check makes of a verdict and a can seen or not (Table 8-3). -/
def confirmJudged (v : Verdict) (seen : Bool) (s : State) : State :=
  match v, seen with
  | .reject, true => postCause .escape { s with verdict.counters.escapes := s.verdict.counters.escapes + 1 }
  | .reject, false => { s with verdict.counters.confirmedRejects := s.verdict.counters.confirmedRejects + 1 }
  | _, true => { s with verdict.counters.confirmedAccepts := s.verdict.counters.confirmedAccepts + 1 }
  | _, false => raise .missingCan { s with verdict.counters.missing := s.verdict.counters.missing + 1 }

/-- The confirm state is noted, and then the verdict is checked against it. -/
theorem confirmCheck_eq (h : findRecord n s.track.queue = some r) :
    confirmCheck n s = confirmJudged r.verdict (r.confirm == some .seen) (confirmNoted n r s) := by
  have hu : (if r.confirm.isNone = true
      then writeRecord n (fun r => { r with confirm := some .notSeen }) s else s) = confirmNoted n r s := by
    cases hc : r.confirm <;> simp [confirmNoted, hc, writeRecord]
  unfold confirmCheck
  simp only [h, hu]
  rfl

theorem seen_eq_false (h : r.confirm ≠ some .seen) : (r.confirm == some .seen) = false := beq_eq_false_iff_ne.mpr h

theorem confirmCheck_track (h : findRecord n s.track.queue = some r) :
    (confirmCheck n s).track = (confirmNoted n r s).track := by
  rw [confirmCheck_eq h]
  unfold confirmJudged
  split
  · exact postCause_track ..
  · rfl
  · rfl
  · exact raise_track ..

/-- The record as the confirm check leaves it, which is how it exits (R77). -/
theorem findRecord_confirmNoted (h : findRecord n s.track.queue = some r) :
    findRecord n (confirmNoted n r s).track.queue = some { r with confirm := some (r.confirm.getD .notSeen) } := by
  cases hc : r.confirm with
  | none =>
    rw [confirmNoted_absent hc]
    show findRecord n (updateRecord n _ s.track.queue) = _
    rw [findRecord_updateRecord (by intro; rfl), h]
    rfl
  | some c => rw [confirmNoted_present hc, h, Option.getD_some, ← hc]

theorem removeRecord_confirmNoted :
    removeRecord n (confirmNoted n r s).track.queue = removeRecord n s.track.queue := by
  unfold confirmNoted
  split
  · exact removeRecord_updateRecord (by intro; rfl) _
  · rfl

theorem confirmNoted_canCounters : (confirmNoted n r s).track.counters = s.track.counters := by
  unfold confirmNoted
  split <;> rfl

/-- A record exits as its confirm check leaves it (R77). -/
theorem exitRecord_eq (h : findRecord n s.track.queue = some r) : exitRecord n s =
    canReport false { r with confirm := some (r.confirm.getD .notSeen) } { confirmCheck n s with
      track.queue := removeRecord n s.track.queue
      track.counters.exited := s.track.counters.exited + 1 } := by
  have ht := confirmCheck_track h
  have hf := findRecord_confirmNoted h
  rw [← ht] at hf
  have hr : removeRecord n (confirmCheck n s).track.queue = removeRecord n s.track.queue := by
    rw [ht, removeRecord_confirmNoted]
  have hc : (confirmCheck n s).track.counters = s.track.counters := by rw [ht, confirmNoted_canCounters]
  unfold exitRecord
  simp only [hf, hr, hc]

end

/-! ## CAN REPORTs (R193) -/

section
variable {lost : Bool} {r : CanRecord} {s : State}

theorem reportMade_iff : reportMade s.mgmt.reportMode lost r = true ↔
    s.mgmt.reportMode = .all ∨ (s.mgmt.reportMode = .rejects ∧ (lost = true ∨ r.verdict = .reject)) := by
  cases s.mgmt.reportMode <;> simp [reportMade]

theorem canReport_off (h : ¬reportMade s.mgmt.reportMode lost r = true) : canReport lost r s = s := if_neg h

variable (h : reportMade s.mgmt.reportMode lost r = true)
include h

theorem canReport_queued (hr : repeaterOnly s = false) (hl : s.ring.routine.length < 8) :
    canReport lost r s = { s with
      ring.routine := s.ring.routine ++ [.ready ⟨.managementUnit, 0, 0x3A, reportPayload lost s r⟩]
      mgmt.counters.reportsQueued := s.mgmt.counters.reportsQueued + 1 } := by
  rw [canReport, if_pos h, appendRoutine_room hr hl]
  rfl

theorem canReport_dropped (hr : repeaterOnly s = true ∨ 8 ≤ s.ring.routine.length) :
    canReport lost r s =
      raise .reportDrop { s with mgmt.counters.reportsDropped := s.mgmt.counters.reportsDropped + 1 } := by
  have ha (f : RoutineFrame) : appendRoutine f s = (false, s) := by
    rcases hr with hr | hl
    · simp [appendRoutine, hr]
    · exact appendRoutine_full hl
  rw [canReport, if_pos h, ha]

end

/-- A CAN REPORT is not made, queued or dropped. -/
theorem canReport_cases (lost : Bool) (r : CanRecord) (s : State) :
    canReport lost r s = s
    ∨ (canReport lost r s = { s with
        ring.routine := s.ring.routine ++ [.ready ⟨.managementUnit, 0, 0x3A, reportPayload lost s r⟩]
        mgmt.counters.reportsQueued := s.mgmt.counters.reportsQueued + 1 })
    ∨ canReport lost r s =
        raise .reportDrop { s with mgmt.counters.reportsDropped := s.mgmt.counters.reportsDropped + 1 } := by
  by_cases h : reportMade s.mgmt.reportMode lost r = true
  · rcases appendRoutine_cases .notice s with ⟨-, hr⟩ | ⟨-, hr, hl⟩
    · exact .inr (.inr (canReport_dropped h hr))
    · exact .inr (.inl (canReport_queued h hr hl))
  · exact .inl (canReport_off h)

/-- A CAN REPORT touches the Routine Queue and the Management Unit. -/
theorem canReport_frame (lost : Bool) (r : CanRecord) (s : State) : canReport lost r s = { s with
    ring.routine := (canReport lost r s).ring.routine
    mgmt := (canReport lost r s).mgmt } := by
  rcases canReport_cases lost r s with h | h | h
  · rw [h]
  · rw [h]
  · rw [h, raise_frame]

/-! ## Latches that stay set (R191) -/

section
variable {l : EventLatch} {s : State} (h : s.latch l = true)
include h

/-- Raising a latch clears none. -/
theorem raise_keeps_latch (m : EventLatch) : (raise m s).latch l = true := by
  have hor (k : BitVec 18) : (s.mgmt.latches ||| k).getLsbD l.number = true := by
    rw [BitVec.getLsbD_or, show s.mgmt.latches.getLsbD l.number = true from h]
    rfl
  unfold raise
  split
  · exact h
  · dsimp only
    split
    · rw [State.latch, noticeDue_latches]
      exact hor _
    · exact hor _

theorem canReport_keeps_latch (lost : Bool) (r : CanRecord) : (canReport lost r s).latch l = true := by
  rcases canReport_cases lost r s with he | he | he <;> rw [he]
  · exact h
  · exact h
  · exact raise_keeps_latch (s := { s with mgmt.counters.reportsDropped := s.mgmt.counters.reportsDropped + 1 }) h _

theorem postCause_keeps_latch (c : Cause) : (postCause c s).latch l = true := by
  cases he : s.verdict.stopLatch.isEmpty with
  | true =>
    rw [postCause_empty he]
    exact raise_keeps_latch (s := posted c s) h _
  | false =>
    rw [postCause_held he]
    exact h

end

/-! ## The eye window close (R74, R178) -/

/-- The lost-run count after one loss more (R178). -/
def lossCounted (s : State) : State := { s with verdict.lostRun := min 255 (s.verdict.lostRun + 1) }

section
variable {s : State}

theorem lostRunLoss_below (h : s.verdict.lostRunLimit = 0 ∨ min 255 (s.verdict.lostRun + 1) < s.verdict.lostRunLimit) :
    lostRunLoss s = lossCounted s := by
  refine if_neg ?_
  simp only [Bool.and_eq_true, decide_eq_true_iff]
  omega

theorem lostRunLoss_reached (h0 : 0 < s.verdict.lostRunLimit)
    (h : s.verdict.lostRunLimit ≤ min 255 (s.verdict.lostRun + 1)) :
    lostRunLoss s = postCause .lostRun (lossCounted s) := by
  refine if_pos ?_
  simp only [Bool.and_eq_true, decide_eq_true_iff]
  exact ⟨h0, h⟩

theorem lostRunLoss_cases (s : State) :
    lostRunLoss s = lossCounted s ∨ lostRunLoss s = postCause .lostRun (lossCounted s) := by
  unfold lostRunLoss lossCounted
  dsimp only
  split
  · exact .inr rfl
  · exact .inl rfl

/-- A loss touches the Verdict Unit and what raising a latch touches. -/
theorem lostRunLoss_frame (s : State) : lostRunLoss s = { s with
    ring.routine := (lostRunLoss s).ring.routine
    verdict := (lostRunLoss s).verdict
    mgmt := (lostRunLoss s).mgmt } := by
  rcases lostRunLoss_cases s with h | h
  · rw [h]
    rfl
  · rw [h, postCause_frame]
    rfl

theorem lostRunLoss_lostRun (s : State) : (lostRunLoss s).verdict.lostRun = min 255 (s.verdict.lostRun + 1) := by
  rcases lostRunLoss_cases s with h | h
  · rw [h]
    rfl
  · rw [h, postCause_frame]
    rfl

theorem lostRunLoss_keeps_latch {l : EventLatch} (h : s.latch l = true) : (lostRunLoss s).latch l = true := by
  rcases lostRunLoss_cases s with he | he <;> rw [he]
  · exact h
  · exact postCause_keeps_latch (s := lossCounted s) h _

/-- A record lost: out of the queue, counted, latched and reported (R74). -/
def lossTaken (n : Serial) (r : CanRecord) (s : State) : State :=
  canReport true { r with eye := .lost } (raise .lostCan { s with
    track.queue := removeRecord n s.track.queue
    track.counters.lost := s.track.counters.lost + 1 })

variable {n : Serial} {r : CanRecord}

theorem lossTaken_frame : lossTaken n r s = { s with
    ring.routine := (lossTaken n r s).ring.routine
    track := { s.track with
      queue := removeRecord n s.track.queue, counters.lost := s.track.counters.lost + 1 }
    mgmt := (lossTaken n r s).mgmt } := by
  unfold lossTaken
  rw [canReport_frame, raise_frame]

theorem lossTaken_latch : (lossTaken n r s).latch .lostCan = true :=
  canReport_keeps_latch (raise_latch _ _) _ _

theorem eyeClose_expected (h : findRecord n s.track.queue = some r) (he : r.eye = .expected) :
    eyeClose n s = lostRunLoss (lossTaken n r s) := by
  simp only [eyeClose, loseRecord, h, he]
  rfl

theorem eyeClose_other (h : findRecord n s.track.queue = some r) (he : r.eye ≠ .expected) : eyeClose n s = s := by
  simp [eyeClose, h, he]

/-- The record at its reader window close (R73). -/
theorem findRecord_readerClose (h : findRecord n s.track.queue = some r) :
    findRecord n (readerClose n s).track.queue =
      some (if r.code.isNone then { r with code := some .noread } else r) := by
  show findRecord n (updateRecord n _ s.track.queue) = _
  rw [findRecord_updateRecord (fun r => by split <;> rfl), h]
  rfl

end

/-- Settles O27: the confirm check verdict by verdict with the record's exit, the CAN REPORT by its mode and the room it
finds, and the eye and reader window closes. -/
theorem windowClosesAct : Obligations.WindowClosesAct := by
  refine ⟨fun s n r hf => ?confirm, fun s lost r => ?report, fun s n r hf => ⟨eyeClose_expected hf, fun he => ?eye,
    eyeClose_other hf, fun hc => ?noread, fun hc => ?read⟩⟩
  case confirm =>
    intro u c
    have hc : c = confirmJudged r.verdict (r.confirm == some .seen) u := confirmCheck_eq hf
    have hu : u.verdict = s.verdict := confirmNoted_verdict
    refine ⟨fun hv hs => ?acceptSeen, fun hv hs => ?acceptMissing, fun hv hs => ?rejectMissing,
      fun hv hs => ?rejectSeen, exitRecord_eq hf⟩
    case acceptSeen =>
      rw [hc, hv, hs, ← hu]
      rfl
    case acceptMissing =>
      rw [hc, hv, seen_eq_false hs, ← hu]
      rfl
    case rejectMissing =>
      rw [hc, hv, seen_eq_false hs, ← hu]
      rfl
    case rejectSeen =>
      rw [hc, hv, hs, ← hu]
      rfl
  case report =>
    intro payload made
    have hp : reportPayload lost s r = payload := by
      unfold payload reportPayload reportCode reportNet reportVerdict
      cases r.weight with
      | none => rfl
      | some w =>
        obtain ⟨net, samples, quality, test⟩ := w
        cases quality <;> rfl
    have hm : reportMade s.mgmt.reportMode lost r = true ↔ made := reportMade_iff
    refine ⟨fun h => canReport_off (mt hm.mp h), fun h hr hl => ?_, fun h hr => canReport_dropped (hm.mpr h) hr⟩
    rw [← hp]
    exact canReport_queued (hm.mpr h) hr hl
  case eye =>
    have hframe := lostRunLoss_frame (lossTaken n r s)
    have hverdict : (lossTaken n r s).verdict = s.verdict := by rw [lossTaken_frame]
    refine ⟨_, eyeClose_expected hf he, ?track, lostRunLoss_keeps_latch lossTaken_latch, ?lostRun, fun h0 => ?unset,
      fun h0 hle => ?set, ?_, ?_, ?_, ?_, ?_⟩
    case track => rw [lostRunLoss_track, lossTaken_frame]
    case lostRun => rw [lostRunLoss_lostRun, hverdict]
    case unset =>
      rw [lostRunLoss_below (.inl (by rw [hverdict]; exact h0)), lossCounted, hverdict]
    case set =>
      rw [← hverdict] at h0 hle ⊢
      rw [lostRunLoss_reached h0 hle, postCause_frame]
      rfl
    all_goals rw [hframe, lossTaken_frame]
  case noread =>
    refine ⟨_, findRecord_readerClose hf, ?_⟩
    simp [hc]
  case read =>
    rw [findRecord_readerClose hf, if_neg (by simpa using hc)]

end Sys2Proof.Machine
end

section
/-! PROOFS. The sample port's receiver and the loss timer (R89, R91, R92, R100, R110): O31. -/

namespace Sys2Proof.Machine

/-! ## The word that 32 bits make (R89) -/

/-- Bits taken most significant first: bit i of the number is the bit i places from the end. -/
theorem testBit_foldl_bits (bits : List Bool) (i : Nat) :
    (bits.foldl (fun (n : Nat) (b : Bool) => 2 * n + b.toNat) 0).testBit i = bits.reverse.getD i false := by
  induction bits using List.reverseRecOn generalizing i with
  | nil => simp
  | append_singleton bits b ih =>
    rw [List.foldl_append, List.foldl_cons, List.foldl_nil, List.reverse_append]
    cases i with
    | zero => cases b <;> simp [Nat.testBit_zero, Nat.add_mod]
    | succ i =>
      rw [Nat.testBit_succ, show ∀ n : Nat, (2 * n + b.toNat) / 2 = n by have := b.toNat_lt; omega, ih]
      rfl

/-- Thirty-two bits spell the word whose bits they are, the first the most significant. -/
theorem sampleWord_eq {bits : List Bool} {w : BitVec 32} (hl : bits.length = 32)
    (h : ∀ i, i < 32 → bits[i]? = some (w.getLsbD (31 - i))) : sampleWord bits = w := by
  refine BitVec.eq_of_getLsbD_eq fun i hi => ?_
  have hbit : bits.reverse[i]? = some (w.getLsbD i) := by
    rw [List.getElem?_reverse (by omega), hl, h _ (by omega)]
    congr 2
    omega
  rw [sampleWord, BitVec.getLsbD_ofNat, testBit_foldl_bits, List.getD_eq_getElem?_getD, hbit]
  simp [hi]

/-! ## The receiver (R89, logs 1 and 20) -/

section
variable {s : State} {bits : List Bool}

theorem shortFrameEvent_idle (h : s.weigh.receiver = .idle) : shortFrameEvent s = s := by
  simp only [shortFrameEvent, h]

theorem shortFrameEvent_taking (h : s.weigh.receiver = .taking bits) : shortFrameEvent s =
    { s with weigh.receiver := .taking [], weigh.counters.short := s.weigh.counters.short + 1 } := by
  simp only [shortFrameEvent, h]

theorem sampleSync_idle (h : s.weigh.receiver = .idle) : sampleSync s = { s with weigh.receiver := .taking [] } := by
  simp only [sampleSync, h]

theorem sampleSync_taking (h : s.weigh.receiver = .taking bits) : sampleSync s = shortFrameEvent s := by
  simp only [sampleSync, h]

theorem sampleClock_idle (d : Bool) (h : s.weigh.receiver = .idle) : sampleClock d s = s := by
  simp only [sampleClock, h]

theorem sampleClock_more (d : Bool) (h : s.weigh.receiver = .taking bits) (hl : bits.length < 31) :
    sampleClock d s = { s with weigh.receiver := .taking (bits ++ [d]) } := by
  simp [sampleClock, h, Config.sampleFrameBits, show bits.length + 1 < 32 by omega]

theorem sampleClock_last (d : Bool) (h : s.weigh.receiver = .taking bits) (hl : bits.length = 31) :
    sampleClock d s = completeSampleFrame (sampleWord (bits ++ [d])) s := by
  simp [sampleClock, h, Config.sampleFrameBits, hl]

/-- A frame's completion leaves the receiver idle whatever it held. -/
theorem completeSampleFrame_receiver (w : BitVec 32) (s : State) (r : SampleReceiver) :
    completeSampleFrame w { s with weigh.receiver := r } = completeSampleFrame w s := rfl

/-- The 32nd bit does what the whole frame does that its bits spell (log 20). -/
theorem sampleFrameEvent_lastBit {d : Bool} {w : BitVec 32} (h : s.weigh.receiver = .taking bits)
    (hl : bits.length = 31) (hw : ∀ i, i < 32 → (bits ++ [d])[i]? = some (w.getLsbD (31 - i))) :
    sampleFrameEvent (.clk d) s = sampleFrameEvent (.frame w) { s with weigh.receiver := .idle } := by
  calc sampleFrameEvent (.clk d) s
      = completeSampleFrame (sampleWord (bits ++ [d])) s := sampleClock_last d h hl
    _ = completeSampleFrame w s := by rw [sampleWord_eq (by simp [hl]) hw]
    _ = sampleFrameEvent (.frame w) { s with weigh.receiver := .idle } := (completeSampleFrame_receiver w s _).symm

end

/-! ## The loss timer (R91, R100, R110) -/

section
variable {s : State}

theorem faultOpenWindow_eq (s : State) : faultOpenWindow s = { s with
    weigh.slot := match s.weigh.slot with
      | .opened w => .opened (if w.test.isNone then { w with fault := true } else w)
      | x => x } := by
  cases h : s.weigh.slot with
  | opened w =>
    simp only [faultOpenWindow, h]
    split
    · rfl
    · rw [← h]
  | none | pending =>
    simp only [faultOpenWindow, h]
    rw [← h]

theorem lossExpiry_set (h : s.weigh.sampleLoss = true) : lossExpiry s = { s with weigh.lossTimer := none } :=
  if_pos h

theorem lossExpiry_clear (h : s.weigh.sampleLoss = false) : lossExpiry s = raise .sampleLossOn
    (discardTracking (faultOpenWindow { s with
      weigh.lossTimer := none
      weigh.sampleLoss := true
      weigh.counters.losses := s.weigh.counters.losses + 1 })) :=
  if_neg (by simp [h])

theorem sampleLossEvent_running {since : Ticks} (h : s.weigh.lossTimer = some since) : sampleLossEvent s =
    lossExpiry (advanceTo (since + (4 * 8000000 + (s.weigh.sampleRate - 1)) / s.weigh.sampleRate) s) := by
  simp only [sampleLossEvent, h, lossTicks_eq]

end

/-- Settles O31: the receiver's events by what it has taken, the expiry by SAMPLE LOSS. -/
theorem shortFrameAndSampleLoss : Obligations.ShortFrameAndSampleLoss := by
  have sample {p : SamplePart} {s t : State} (h : Awake s) (ht : sampleFrameEvent p s = t) :
      Taken (.sampleFrame p) s t := taken_of_event (f := sampleFrameEvent p) rfl h ht
  have short {s t : State} (h : Awake s) (ht : shortFrameEvent s = t) : Taken .shortFrame s t :=
    taken_of_event (f := shortFrameEvent) rfl h ht
  have loss {s t : State} (h : Awake s) (ht : sampleLossEvent s = t) : Taken .sampleLoss s t :=
    taken_of_event (f := sampleLossEvent) rfl h ht
  refine ⟨fun s h hr => ?idle, fun s bits h hr => ?taking, fun s since h ht _ => ?timer⟩
  case idle =>
    exact ⟨short h (shortFrameEvent_idle hr), sample h (sampleSync_idle hr), fun d => sample h (sampleClock_idle d hr)⟩
  case taking =>
    refine ⟨short h (shortFrameEvent_taking hr), sample h ((sampleSync_taking hr).trans (shortFrameEvent_taking hr)),
      fun hl d => sample h (sampleClock_more d hr hl), fun hl d w hw => ?_⟩
    calc exec (.sampleFrame (.clk d)) s
        = .next (arbitrate (sampleFrameEvent (.clk d) s)) := event_awake h
      _ = .next (arbitrate (sampleFrameEvent (.frame w) { s with weigh.receiver := .idle })) := by
        rw [sampleFrameEvent_lastBit hr hl hw]
      _ = exec (.sampleFrame (.frame w)) { s with weigh.receiver := .idle } :=
        (event_awake (s := { s with weigh.receiver := .idle }) h).symm
  case timer =>
    refine ⟨fun hs => loss h ((sampleLossEvent_running ht).trans (lossExpiry_set hs)), fun hs => loss h ?_⟩
    rw [sampleLossEvent_running ht, lossExpiry_clear (s := advanceTo _ s) hs, faultOpenWindow_eq]
    rfl

end Sys2Proof.Machine
end

section
/-! PROOFS. ZERO and test mode (R105, R110, R112, R189): O32. -/

namespace Sys2Proof.Machine

section
variable {s : State}

/-! ## ZERO (R105) -/

theorem zeroRefusal_testMode (h : s.weigh.testMode = true) : zeroRefusal s = some .inUse := if_pos h

theorem zeroRefusal_busy (h : s.weigh.testMode = false) (hb : s.weigh.capture ≠ none ∨ s.weigh.slot ≠ .none) :
    zeroRefusal s = some .busy := by
  cases hc : s.weigh.capture with
  | some a => simp [zeroRefusal, h, hc]
  | none => simp [zeroRefusal, h, hc, hb.resolve_left (not_not_intro hc)]

theorem zeroRefusal_none (h : s.weigh.testMode = false) (hc : s.weigh.capture = none) (hs : s.weigh.slot = .none) :
    zeroRefusal s = none := by simp [zeroRefusal, h, hc, hs]

theorem actZero_refused {st : Status} (h : zeroRefusal s = some st) : actZero s = actionAnswer 5 st 0 s := by
  simp only [actZero, h]
  rfl

theorem actZero_starts (h : zeroRefusal s = none) :
    actZero s = discardTracking { s with weigh.capture := some ⟨0, 0⟩ } := by
  simp only [actZero, h]

/-! ## TEST ON (R112) -/

theorem testModeOn_already (h : s.weigh.testMode = true) : testModeOn s = ((.ok, 0), s) := if_pos h

variable (h : s.weigh.testMode = false)
include h

theorem testModeOn_busy (hc : s.weigh.capture ≠ none) : testModeOn s = ((.busy, 0), s) := by
  simp [testModeOn, h, Option.isSome_iff_ne_none.mpr hc]

theorem testModeOn_uncalibrated (hc : s.weigh.capture = none) (hf : s.weigh.factor = 0) :
    testModeOn s = ((.notReady, 5), s) := by
  simp [testModeOn, h, hc, hf, detailCalibration]

theorem testModeOn_starts (hc : s.weigh.capture = none) (hf : s.weigh.factor ≠ 0) : testModeOn s =
    ((.ok, 0), discardTracking { s with weigh.testMode := true, weigh.test.pointer := 0 }) := by
  simp [testModeOn, h, hc, hf]

end

/-- Settles O32: each action by its tests in their order. -/
theorem zeroAndTestMode : Obligations.ZeroAndTestMode := by
  intro s h
  have zero {t : State} (ht : actZero (counted s) = t) : Taken (.zero 0) s t := taken_of_request rfl h ht
  have refused {st : Status} (hr : zeroRefusal (counted s) = some st) :
      Taken (.zero 0) s (actionAnswer 5 st 0 (counted s)) := zero (actZero_refused hr)
  have testOn {st : Status} {d : Byte} {t : State} (ht : testModeOn (counted s) = ((st, d), t)) :
      Taken (.testOn 0) s (actionAnswer 10 st d t) :=
    taken_of_request (perform := actTestOn) rfl h (by rw [actTestOn, ht]; rfl)
  exact ⟨fun ht => refused (zeroRefusal_testMode (s := counted s) ht),
    fun ht hb => refused (zeroRefusal_busy (s := counted s) ht hb),
    fun ht hc hs => zero (actZero_starts (zeroRefusal_none (s := counted s) ht hc hs)),
    fun ht => testOn (testModeOn_already (s := counted s) ht),
    fun ht hc => testOn (testModeOn_busy (s := counted s) ht hc),
    fun ht hc hf => testOn (testModeOn_uncalibrated (s := counted s) ht hc hf),
    fun ht hc hf => testOn (testModeOn_starts (s := counted s) ht hc hf),
    taken_of_request (perform := actTestOff) rfl h rfl⟩

end Sys2Proof.Machine
end

section
/-! PROOFS. The weighing window: its open, its close, its end at once, and the can that takes the platform (R94 to R98,
R101 to R104, R107, R110, R113): O33. -/

namespace Sys2Proof.Machine

/-! ## The open (R95, R113) -/

section
variable {s : State}

theorem engineOpen_other (h : ∀ n overlap, s.weigh.slot ≠ .pending n overlap) : engineOpen s = s := by
  cases hs : s.weigh.slot with
  | pending n overlap => exact absurd hs (h n overlap)
  | none | opened => simp only [engineOpen, hs]

/-- The step pointer's entry is the test weight in STEP, entry 0 in FIXED. -/
theorem testWeight_eq (t : TestState) : testWeight t = t.weights.getD (if t.mode == .step then t.pointer else 0) 0 := by
  cases h : t.mode <;> simp [testWeight, h]

theorem advancePointer_eq (t : TestState) : advancePointer t = { t with
    pointer := if t.mode == .step then (if t.pointer + 1 < t.count then t.pointer + 1 else 0) else t.pointer } := by
  obtain ⟨weights, count, mode, ripple, pointer⟩ := t
  cases mode <;> rfl

theorem engineOpen_pending {n : Serial} {overlap : Bool} (h : s.weigh.slot = .pending n overlap) : engineOpen s =
    { s with
      weigh.slot := .opened
        { serial := n, overlap := overlap, blockSize := s.weigh.blockSize, settleBand := s.weigh.settleBand,
          block := SampleBlock.empty, settled := false, samples := 0, sum := 0,
          fault := s.weigh.sampleLoss && !s.weigh.testMode,
          test :=
            if s.weigh.testMode then some ⟨testWeight s.weigh.test, s.weigh.test.ripple, 0⟩ else none }
      weigh.test := if s.weigh.testMode then advancePointer s.weigh.test else s.weigh.test } := by
  simp only [engineOpen, h]

end

/-! ## The result (R101, R102, R104) -/

/-- A result counts its quality, and a test window in the test counter too (R101). -/
theorem countResult_eq (q : Quality) (test : Bool) (c : WeighingCounters) : countResult q test c = { c with
    test := if test then c.test + 1 else c.test
    good := if q = .good then c.good + 1 else c.good
    unsettled := if q = .unsettled then c.unsettled + 1 else c.unsettled
    overlap := if q = .overlap then c.overlap + 1 else c.overlap
    sampleFault := if q = .sampleFault then c.sampleFault + 1 else c.sampleFault } := by
  cases q <;> cases test <;> rfl

/-- A net is clamped where it lies outside the reported range (R102). -/
theorem clamp_eq_self_iff {lo hi x : Int} : clamp lo hi x = x ↔ ¬(x < lo ∨ hi < x) := by
  unfold clamp
  split_ifs <;> omega

/-- The record with a weight result where it had none (R104). -/
def weighed (w : WeightResult) (r : CanRecord) : CanRecord := if r.weight = none then { r with weight := some w } else r

theorem weighed_serial (w : WeightResult) (r : CanRecord) : (weighed w r).serial = r.serial := by
  unfold weighed
  split <;> rfl

theorem writeWeight_eq (n : Serial) (w : WeightResult) (s : State) :
    writeWeight n w s = { s with track.queue := updateRecord n (weighed w) s.track.queue } := by
  have hf : (fun r : CanRecord => if r.weight.isNone then { r with weight := some w } else r) = weighed w := by
    funext r
    simp [weighed]
  rw [writeWeight, hf]
  rfl

/-- The net of a window's result before it is held to the reported range (R102). -/
def rawNet (n : Serial) (q : Quality) (samples : Nat) (sum : Int) (s : State) : Int :=
  if q = .good then netWeight sum samples s.weigh.zero s.weigh.factor (tareOf s n) else 0

/-- A window's result: counted, with a clamp counted too, and written into its record (R101, R102, R104). -/
theorem finishWindow_result (n : Serial) (q : Quality) (samples : Nat) (sum : Int) (test : Bool) (s : State) :
    let net := rawNet n q samples sum s
    finishWindow n q samples sum test s = { s with
      track.queue := updateRecord n (weighed ⟨clamp (-100000) 999999 net, samples, q, test⟩) s.track.queue
      weigh.counters := { countResult q test s.weigh.counters with
        clamps :=
          if net < -100000 ∨ 999999 < net then s.weigh.counters.clamps + 1 else s.weigh.counters.clamps } } := by
  intro net
  have hnet : (if q == .good then netWeight sum samples s.weigh.zero s.weigh.factor (tareOf s n) else 0) = net := by
    simp only [net, rawNet, beq_iff_eq]
  have hkept : (clamp (-100000) 999999 net == net) = true ↔ ¬(net < -100000 ∨ 999999 < net) := by
    rw [beq_iff_eq, clamp_eq_self_iff]
  have hclamps : (countResult q test s.weigh.counters).clamps = s.weigh.counters.clamps := by rw [countResult_eq]
  unfold finishWindow
  dsimp only [Config.netLeast, Config.netMost]
  rw [hnet, writeWeight_eq]
  by_cases hc : net < -100000 ∨ 999999 < net
  · rw [if_neg (mt hkept.mp (not_not_intro hc)), if_pos hc, hclamps]
  · rw [if_pos (hkept.mpr hc), if_neg hc, ← hclamps]

/-- A window that ends at once has no net: it is SAMPLE_FAULT or OVERLAP (R97). -/
theorem finishWindow_atOnce (n : Serial) (fault settled : Bool) (samples : Nat) (sum : Int) (test : Bool) (s : State) :
    finishWindow n (decideQuality fault true true settled) samples sum test s = { s with
      track.queue := updateRecord n
        (weighed ⟨0, samples, if fault then .sampleFault else .overlap, test⟩) s.track.queue
      weigh.counters := { s.weigh.counters with
        test := if test then s.weigh.counters.test + 1 else s.weigh.counters.test
        sampleFault := if fault then s.weigh.counters.sampleFault + 1 else s.weigh.counters.sampleFault
        overlap := if fault then s.weigh.counters.overlap else s.weigh.counters.overlap + 1 } } := by
  have hq : decideQuality fault true true settled = if fault then .sampleFault else .overlap := by
    simp [decideQuality]
  rw [hq, finishWindow_result, countResult_eq]
  cases fault <;> rfl

section
variable {s : State}

theorem endWindowAtOnce_none (h : s.weigh.slot = .none) : endWindowAtOnce s = s := by simp only [endWindowAtOnce, h]

theorem endWindowAtOnce_pending {n : Serial} {overlap : Bool} (h : s.weigh.slot = .pending n overlap) :
    endWindowAtOnce s =
      finishWindow n (decideQuality s.weigh.sampleLoss true true false) 0 0 false { s with weigh.slot := .none } := by
  simp only [endWindowAtOnce, h]

theorem endWindowAtOnce_opened {w : OpenWindow} (h : s.weigh.slot = .opened w) : endWindowAtOnce s =
    finishWindow w.serial (decideQuality w.fault true true w.settled) w.samples w.sum w.test.isSome
      { s with weigh.slot := .none } := by
  simp only [endWindowAtOnce, h]

theorem engineClose_opened {w : OpenWindow} (h : s.weigh.slot = .opened w) : engineClose s = discardTracking
    (finishWindow w.serial (decideQuality w.fault w.overlap false w.settled) w.samples w.sum w.test.isSome
      { s with weigh.slot := .none }) := by
  simp only [engineClose, h]

theorem tareOf_found {n : Serial} {r : CanRecord} (h : findRecord n s.track.queue = some r) :
    tareOf s n = match r.product with | some p => ((s.product p).tare.toNat : Int) | none => 0 := by
  simp only [tareOf, h] <;> rfl

/-! ## The platform taken (R94, R98, R107, R110) -/

theorem dropCapture_running (h : s.weigh.capture.isSome = true) : dropCapture s = discardTracking { s with
    weigh.capture := none, weigh.counters.capturesAbandoned := s.weigh.counters.capturesAbandoned + 1 } := if_pos h

theorem engineUntracked_capture (h : s.weigh.capture.isSome = true) :
    engineUntracked s = appendZeroReply .zeroAbandoned (dropCapture s) := if_pos h

theorem engineUntracked_noCapture (h : s.weigh.capture = none) :
    engineUntracked s = discardTracking (endWindowAtOnce s) := if_neg (by simp [h])

/-- Without a capture an arrival ends what window there is and places its own, marked where there was one (R94, R97). -/
theorem engineArrival_noCapture {n : Serial} (h : s.weigh.capture = none) : engineArrival n s =
    discardTracking { endWindowAtOnce s with weigh.slot := .pending n (decide (s.weigh.slot ≠ .none)) } := by
  by_cases hs : s.weigh.slot = .none
  · rw [engineArrival_empty h hs, endWindowAtOnce_none hs]
    simp [hs]
  · rw [engineArrival_window h hs]
    simp [hs]

end

/-- Settles O33: the open by its slot, an end at once by what stands in the slot, the arrival and the untracked can by
whether a capture runs, and the close by its result. -/
theorem windowCloseWritesResult : Obligations.WindowCloseWritesResult := by
  refine ⟨fun s => ⟨engineOpen_other, fun n overlap h => ?opens⟩,
    fun s => ⟨endWindowAtOnce_none, fun n overlap h => ?pending, fun w h => ?opened⟩,
    fun s n => ⟨fun a h => ?capture, fun h => ⟨engineUntracked_noCapture h, engineArrival_noCapture h⟩⟩,
    fun s w r hs hf hr => ?close⟩
  case opens =>
    intro step
    rw [engineOpen_pending h, testWeight_eq, advancePointer_eq]
    cases ht : s.weigh.testMode with
    | true => simp [step, ht, SampleBlock.empty]
    | false => simp [step, ht, SampleBlock.empty]
  case pending =>
    intro c q
    rw [endWindowAtOnce_pending h, finishWindow_atOnce]
    rfl
  case opened =>
    intro c q
    rw [endWindowAtOnce_opened h, finishWindow_atOnce]
    rfl
  case capture =>
    intro u
    have hc : s.weigh.capture.isSome = true := by simp [h]
    rw [engineArrival_capture hc, engineUntracked_capture hc, dropCapture_running hc]
    exact ⟨rfl, rfl⟩
  case close =>
    intro q net c
    have hq : decideQuality w.fault w.overlap false w.settled = q := by simp [decideQuality, q]
    have hnet : rawNet w.serial q w.samples w.sum { s with weigh.slot := .none } = net := by
      rw [rawNet, tareOf_found (s := { s with weigh.slot := .none }) hf]
      rfl
    have hclose := engineClose_opened hs
    rw [hq, finishWindow_result, hnet, countResult_eq] at hclose
    rw [hclose]
    refine ⟨rfl, _, ?_, rfl, rfl⟩
    show findRecord w.serial (updateRecord w.serial _ s.track.queue) = _
    rw [findRecord_updateRecord (weighed_serial _), hf]
    simp [weighed, hr]

end Sys2Proof.Machine
end

section
/-! PROOFS. A sample frame and its consumers: an open window, a capture, zero tracking (R89 to R91, R100, R106, R108 to
R110, R113): O30. -/

namespace Sys2Proof.Machine

/-! ## Blocks and windows (R100, R108) -/

theorem SampleBlock.add_first {b : SampleBlock} (x : Int) (h : b.count = 0) : b.add x = ⟨1, x, x, x⟩ := by
  simp [SampleBlock.add, h]

theorem SampleBlock.add_further {b : SampleBlock} (x : Int) (h : b.count ≠ 0) :
    b.add x = ⟨b.count + 1, min b.least x, max b.most x, b.sum + x⟩ := by simp [SampleBlock.add, h]

theorem SampleBlock.quiet_iff {b : SampleBlock} {band : Nat} : b.quiet band = true ↔ b.most - b.least ≤ band :=
  decide_eq_true_iff

section
variable {w : OpenWindow} {x : Int}

theorem OpenWindow.take_summed (h : w.settled = true) (hl : w.samples < 1024) :
    w.take x = { w with samples := w.samples + 1, sum := w.sum + x } := by
  simp [OpenWindow.take, h, Config.sumCapacity, hl]

theorem OpenWindow.take_full (h : w.settled = true) (hl : 1024 ≤ w.samples) : w.take x = w := by
  simp [OpenWindow.take, h, Config.sumCapacity, Nat.not_lt.mpr hl]

variable (h : w.settled = false)
include h

theorem OpenWindow.take_collects (hb : (w.block.add x).count < w.blockSize) :
    w.take x = { w with block := w.block.add x } := by
  simp [OpenWindow.take, h, hb]

variable (hb : w.blockSize ≤ (w.block.add x).count)
include hb

theorem OpenWindow.take_settles (hq : (w.block.add x).most - (w.block.add x).least ≤ w.settleBand) : w.take x = { w with
    block := SampleBlock.empty, settled := true, samples := (w.block.add x).count, sum := (w.block.add x).sum } := by
  simp [OpenWindow.take, h, Nat.not_lt.mpr hb, SampleBlock.quiet_iff.mpr hq]

theorem OpenWindow.take_unquiet (hq : (w.settleBand : Int) < (w.block.add x).most - (w.block.add x).least) :
    w.take x = { w with block := SampleBlock.empty } := by
  simp [OpenWindow.take, h, Nat.not_lt.mpr hb, mt SampleBlock.quiet_iff.mp (Int.not_le.mpr hq)]

end

/-! ## The frame's counts, the loss timer and SAMPLE LOSS (R89, R91) -/

/-- The engine's counters after a whole frame: the frame, a faulted sample, and the partial frame that it made short
(log 20). -/
def framesCounted (faulted : Bool) (w : WeighingEngine) : WeighingCounters :=
  { w.counters with
    frames := w.counters.frames + 1
    faulted := if faulted then w.counters.faulted + 1 else w.counters.faulted
    short := match w.receiver with
      | .taking (_ :: _) => w.counters.short + 1
      | _ => w.counters.short }

/-- The state to which a whole frame's sample is delivered: counted, the loss timer restarted. -/
def sampleTaken (faulted : Bool) (s : State) : State :=
  restartLossTimer faulted
    { s with weigh.receiver := .idle, weigh.counters := framesCounted faulted s.weigh }

theorem completeSampleFrame_eq (w : BitVec 32) (s : State) : completeSampleFrame w s =
    deliverSample (sampleOf w) (sampleFaulted w) (restartLossTimer (sampleFaulted w) { s with
      weigh.receiver := .idle
      weigh.counters := { s.weigh.counters with
        frames := s.weigh.counters.frames + 1
        faulted := if sampleFaulted w then s.weigh.counters.faulted + 1 else s.weigh.counters.faulted } }) := by
  unfold completeSampleFrame
  cases sampleFaulted w <;> rfl

theorem wholeSampleFrame_eq (w : BitVec 32) (s : State) :
    wholeSampleFrame w s = deliverSample (sampleOf w) (sampleFaulted w) (sampleTaken (sampleFaulted w) s) := by
  unfold wholeSampleFrame sampleTaken framesCounted
  cases h : s.weigh.receiver with
  | idle => exact completeSampleFrame_eq w s
  | taking bits =>
    cases bits with
    | nil => exact completeSampleFrame_eq w s
    | cons b bits =>
      dsimp only
      rw [shortFrameEvent_taking h, completeSampleFrame_eq]

section
variable {faulted : Bool} {s : State}

theorem sampleTaken_quiet (h : (s.weigh.sampleLoss && !faulted) = false) : sampleTaken faulted s = { s with
    weigh := { s.weigh with
      receiver := .idle, lossTimer := some s.now, counters := framesCounted faulted s.weigh } } :=
  if_neg (by simp [h])

theorem sampleTaken_regained (h : (s.weigh.sampleLoss && !faulted) = true) : sampleTaken faulted s =
    raise .sampleLossOff { s with
      weigh := { s.weigh with
        receiver := .idle, sampleLoss := false, lossTimer := some s.now,
        counters := framesCounted faulted s.weigh } } := if_pos h

theorem sampleTaken_weigh : (sampleTaken faulted s).weigh = { s.weigh with
    receiver := .idle
    sampleLoss := s.weigh.sampleLoss && faulted
    lossTimer := some s.now
    counters := framesCounted faulted s.weigh } := by
  cases h : (s.weigh.sampleLoss && !faulted) with
  | true =>
    obtain ⟨hs, hf⟩ : s.weigh.sampleLoss = true ∧ faulted = false := by simpa using h
    rw [sampleTaken_regained h, raise_weigh, hs, hf]
    rfl
  | false =>
    have hs : (s.weigh.sampleLoss && faulted) = s.weigh.sampleLoss := by
      cases faulted with
      | true => simp
      | false => simpa using h
    rw [sampleTaken_quiet h, hs]

/-- Beside the engine only what the latch SAMPLE_LOSS_OFF touches changes. -/
theorem sampleTaken_frame : sampleTaken faulted s = { s with
    ring.routine := (sampleTaken faulted s).ring.routine
    weigh := (sampleTaken faulted s).weigh
    mgmt.latches := (sampleTaken faulted s).mgmt.latches
    mgmt.noticePending := (sampleTaken faulted s).mgmt.noticePending
    mgmt.counters := (sampleTaken faulted s).mgmt.counters } := by
  cases h : (s.weigh.sampleLoss && !faulted) with
  | true => rw [sampleTaken_regained h, raise_frame]
  | false => rw [sampleTaken_quiet h]

theorem sampleTaken_latch (hs : s.weigh.sampleLoss = true) (hf : faulted = false) :
    (sampleTaken faulted s).latch .sampleLossOff = true := by
  rw [sampleTaken_regained (by simp [hs, hf])]
  exact raise_latch _ _

end

/-! ## The consumers, each by its cases -/

section
variable {s : State} {x : Int}

theorem deliverSample_opened (faulted : Bool) {o : OpenWindow} (h : s.weigh.slot = .opened o) :
    deliverSample x faulted s = { s with
      weigh := { s.weigh with
        slot := .opened (windowSample x faulted s.weigh.zero s.weigh.factor o)
        block := if faulted then SampleBlock.empty else s.weigh.block
        run := if faulted then TrackingRun.empty else s.weigh.run } } := by
  cases faulted <;> simp [deliverSample, h, discardTracking]

section
variable {faulted : Bool} (hs : ∀ o, s.weigh.slot ≠ .opened o)
include hs

theorem deliverSample_faulted (hf : faulted = true) : deliverSample x faulted s = discardTracking s := by
  cases h : s.weigh.slot with
  | opened o => exact absurd h (hs o)
  | none | pending => simp [deliverSample, h, hf]

theorem deliverSample_capture (hf : faulted = false) {a : CaptureAccumulator} (hc : s.weigh.capture = some a) :
    deliverSample x faulted s = captureSample x a s := by
  cases h : s.weigh.slot with
  | opened o => exact absurd h (hs o)
  | none | pending => simp [deliverSample, h, hf, hc]

theorem deliverSample_noCapture (hf : faulted = false) (hc : s.weigh.capture = none) :
    deliverSample x faulted s = if zeroTrackingRuns s then trackingSample x s else s := by
  cases h : s.weigh.slot with
  | opened o => exact absurd h (hs o)
  | none | pending => simp [deliverSample, h, hf, hc]

end

/-- A faulted sample leaves its trace in an open window and ends the zero-tracking run (R100, R110). -/
theorem deliverSample_faulted_weigh {faulted : Bool} (hf : faulted = true) : (deliverSample x faulted s).weigh =
    { s.weigh with
      slot := (deliverSample x faulted s).weigh.slot, block := SampleBlock.empty, run := TrackingRun.empty } := by
  by_cases h : ∃ o, s.weigh.slot = .opened o
  · obtain ⟨o, ho⟩ := h
    rw [deliverSample_opened faulted ho]
    simp [hf]
  · rw [deliverSample_faulted (not_exists.mp h) hf]
    rfl

theorem not_zeroTrackingRuns
    (h : s.weigh.zeroTracking = false ∨ s.weigh.testMode = true ∨ s.weigh.slot ≠ .none) :
    ¬zeroTrackingRuns s = true := by
  rcases h with h | h | h <;> simp [zeroTrackingRuns, h]

theorem zeroTrackingRuns_empty (hz : s.weigh.zeroTracking = true) (ht : s.weigh.testMode = false)
    (hs : s.weigh.slot = .none) (hc : s.weigh.capture = none) : zeroTrackingRuns s = true := by
  simp [zeroTrackingRuns, engineState, hz, ht, hs, hc]

/-! ### Windows (R100, R113) -/

section
variable {faulted : Bool} {zero : Int} {factor : Nat} {o : OpenWindow}

theorem windowSample_faults (ht : o.test = none) (hf : faulted = true) :
    windowSample x faulted zero factor o = { o with fault := true } := by simp [windowSample, ht, hf]

theorem windowSample_takes (ht : o.test = none) (hf : faulted = false) :
    windowSample x faulted zero factor o = o.take x := by simp [windowSample, ht, hf]

theorem windowSample_test {k : TestWindow} (ht : o.test = some k) : windowSample x faulted zero factor o =
    { o.take (syntheticSample zero factor k) with test := some { k with index := (k.index + 1) % 4 } } := by
  simp [windowSample, ht]

end

/-! ### Capture (R106) -/

section
variable {a : CaptureAccumulator}

theorem captureSample_adds (h : a.count < 255) :
    captureSample x a s = { s with weigh.capture := some ⟨a.count + 1, a.sum + x⟩ } := by
  simp [captureSample, Config.captureSamples, show a.count + 1 < 256 by omega]

/-- The engine at the end of a capture, whose accumulator comes to `sum` (R106, R110). -/
def captureEnded (sum : Int) (s : State) : State :=
  { s with
    weigh := { s.weigh with
      zero := sum.tdiv 256, capture := none, block := SampleBlock.empty, run := TrackingRun.empty,
      counters.captures := s.weigh.counters.captures + 1 } }

theorem captureSample_completes (h : 255 ≤ a.count) :
    captureSample x a s = appendZeroReply .ok (captureEnded (a.sum + x) s) :=
  if_neg (show ¬a.count + 1 < 256 by omega)

end

/-- The REPLY of the ZERO that began the capture (R105, R106). -/
theorem captureEnded_reply (sum : Int) (hr : repeaterOnly s = false) (hl : s.ring.routine.length < 8) :
    (appendZeroReply .ok (captureEnded sum s)).ring.routine =
      s.ring.routine ++ [.ready ⟨.managementUnit, 0, 0x38, [0x32, 0, 0, 5]⟩] := by
  rw [appendZeroReply, appendReply_queued (s := captureEnded sum s) hr hl]
  rfl

/-! ### Zero tracking (R108, R109) -/

/-- How far the mean of a run of 64 blocks lies from the zero (R109). -/
def runDifference (sum : Int) (s : State) : Int := sum.tdiv ((64 * s.weigh.blockSize : Nat) : Int) - s.weigh.zero

theorem evaluateRun_adjusts {sum : Int} (h : (runDifference sum s).natAbs ≤ s.weigh.zeroBand) :
    evaluateRun sum s = { s with
      weigh := { s.weigh with
        zero := s.weigh.zero + (runDifference sum s).tdiv 4, block := SampleBlock.empty, run := TrackingRun.empty,
        counters.adjustments := s.weigh.counters.adjustments + 1 } } := if_pos h

theorem evaluateRun_drifts {sum : Int} (h : s.weigh.zeroBand < (runDifference sum s).natAbs) :
    evaluateRun sum s = raise .zeroDrift { s with
      weigh := { s.weigh with
        block := SampleBlock.empty, run := TrackingRun.empty,
        counters.drifts := s.weigh.counters.drifts + 1 } } := if_neg (Nat.not_le.mpr h)

/-- A run is emptied however it comes out. -/
theorem evaluateRun_empties (sum : Int) (s : State) :
    (evaluateRun sum s).weigh.block = SampleBlock.empty ∧ (evaluateRun sum s).weigh.run = TrackingRun.empty := by
  rcases Nat.lt_or_ge s.weigh.zeroBand (runDifference sum s).natAbs with h | h
  · rw [evaluateRun_drifts h, raise_weigh]
    exact ⟨rfl, rfl⟩
  · rw [evaluateRun_adjusts h]
    exact ⟨rfl, rfl⟩

theorem trackingSample_collects (hb : (s.weigh.block.add x).count < s.weigh.blockSize) :
    trackingSample x s = { s with weigh.block := s.weigh.block.add x } := if_pos hb

variable (hb : s.weigh.blockSize ≤ (s.weigh.block.add x).count)
include hb

theorem trackingSample_discards
    (hq : (s.weigh.settleBand : Int) < (s.weigh.block.add x).most - (s.weigh.block.add x).least) :
    trackingSample x s = discardTracking s := by
  simp [trackingSample, Nat.not_lt.mpr hb, mt SampleBlock.quiet_iff.mp (Int.not_le.mpr hq)]

variable (hq : (s.weigh.block.add x).most - (s.weigh.block.add x).least ≤ s.weigh.settleBand)
include hq

theorem trackingSample_joins (hr : s.weigh.run.blocks < 63) : trackingSample x s = { s with
    weigh := { s.weigh with
      block := SampleBlock.empty
      run := ⟨s.weigh.run.blocks + 1, s.weigh.run.sum + (s.weigh.block.add x).sum⟩ } } := by
  simp [trackingSample, Nat.not_lt.mpr hb, SampleBlock.quiet_iff.mpr hq, Config.trackingRunBlocks,
    show s.weigh.run.blocks + 1 < 64 by omega]

theorem trackingSample_evaluates (hr : 63 ≤ s.weigh.run.blocks) :
    trackingSample x s = evaluateRun (s.weigh.run.sum + (s.weigh.block.add x).sum) s := by
  simp [trackingSample, Nat.not_lt.mpr hb, SampleBlock.quiet_iff.mpr hq, Config.trackingRunBlocks,
    show ¬s.weigh.run.blocks + 1 < 64 by omega]

omit hq in
/-- A full block is emptied, quiet or not. -/
theorem trackingSample_emptiesBlock : (trackingSample x s).weigh.block = SampleBlock.empty := by
  rcases lt_or_ge (s.weigh.settleBand : Int) ((s.weigh.block.add x).most - (s.weigh.block.add x).least) with hq | hq
  · rw [trackingSample_discards hb hq]
    rfl
  rcases Nat.lt_or_ge s.weigh.run.blocks 63 with hr | hr
  · rw [trackingSample_joins hb hq hr]
  · rw [trackingSample_evaluates hb hq hr]
    exact (evaluateRun_empties _ s).1

end

/-! ## What a delivery may touch -/

/-- The delivery of a sample touches the engine's slot, zero, capture, block, run and three counters, a slot only where
a window is open, and what a latch or a REPLY touches; it begins no capture and clears no latch. -/
structure SampleDelivered (s t : State) : Prop where
  frame : t = { s with
    ring.routine := t.ring.routine
    weigh := { s.weigh with
      slot := t.weigh.slot, zero := t.weigh.zero, capture := t.weigh.capture, block := t.weigh.block,
      run := t.weigh.run,
      counters := { s.weigh.counters with
        captures := t.weigh.counters.captures
        adjustments := t.weigh.counters.adjustments
        drifts := t.weigh.counters.drifts } }
    mgmt.latches := t.mgmt.latches
    mgmt.noticePending := t.mgmt.noticePending
    mgmt.counters := t.mgmt.counters }
  slot : (∀ o, s.weigh.slot ≠ .opened o) → t.weigh.slot = s.weigh.slot
  capture : s.weigh.capture = none → t.weigh.capture = none
  latch : ∀ l, s.latch l = true → t.latch l = true

namespace SampleDelivered

variable {s t u : State}

theorem refl (s : State) : SampleDelivered s s := ⟨rfl, fun _ => rfl, id, fun _ => id⟩

/-- A latch raised or a REPLY appended after a delivery. -/
theorem signals (h : SampleDelivered s t)
    (hu : u = { t with
      ring.routine := u.ring.routine
      mgmt.latches := u.mgmt.latches
      mgmt.noticePending := u.mgmt.noticePending
      mgmt.counters := u.mgmt.counters })
    (hl : ∀ l, t.latch l = true → u.latch l = true) : SampleDelivered s u := by
  have hw : u.weigh = t.weigh := by rw [hu]
  refine ⟨?_, fun hs => ?_, fun hc => ?_, fun l hs => hl l (h.latch l hs)⟩
  · rw [hw]
    refine hu.trans ?_
    conv_lhs => rw [h.frame]
  · rw [hw, h.slot hs]
  · rw [hw, h.capture hc]

theorem raise (l : EventLatch) (h : SampleDelivered s t) : SampleDelivered s (raise l t) :=
  h.signals (raise_frame l t) fun _ hm => raise_keeps_latch hm l

theorem zeroReply (st : Status) (h : SampleDelivered s t) : SampleDelivered s (appendZeroReply st t) :=
  h.signals (by rw [appendZeroReply, appendReply_frame]) fun l hl => by
    rw [State.latch, appendZeroReply, appendReply_latches]
    exact hl

theorem captureSample (x : Int) {a : CaptureAccumulator} (hc : s.weigh.capture = some a) :
    SampleDelivered s (captureSample x a s) := by
  rcases Nat.lt_or_ge a.count 255 with h | h
  · rw [captureSample_adds h]
    exact ⟨rfl, fun _ => rfl, fun hn => (nomatch hn.symm.trans hc), fun _ => id⟩
  · rw [captureSample_completes h]
    exact .zeroReply _ ⟨rfl, fun _ => rfl, fun _ => rfl, fun _ => id⟩

theorem evaluateRun (sum : Int) (s : State) : SampleDelivered s (evaluateRun sum s) := by
  rcases Nat.lt_or_ge s.weigh.zeroBand (runDifference sum s).natAbs with h | h
  · rw [evaluateRun_drifts h]
    exact .raise _ ⟨rfl, fun _ => rfl, id, fun _ => id⟩
  · rw [evaluateRun_adjusts h]
    exact ⟨rfl, fun _ => rfl, id, fun _ => id⟩

theorem trackingSample (x : Int) (s : State) : SampleDelivered s (trackingSample x s) := by
  unfold Machine.trackingSample
  dsimp only
  split_ifs
  · exact ⟨rfl, fun _ => rfl, id, fun _ => id⟩
  · exact ⟨rfl, fun _ => rfl, id, fun _ => id⟩
  · exact .evaluateRun _ s
  · exact ⟨rfl, fun _ => rfl, id, fun _ => id⟩

theorem deliverSample (x : Int) (faulted : Bool) (s : State) : SampleDelivered s (deliverSample x faulted s) := by
  by_cases h : ∃ o, s.weigh.slot = .opened o
  · obtain ⟨o, ho⟩ := h
    rw [deliverSample_opened faulted ho]
    exact ⟨rfl, fun hs => absurd ho (hs o), id, fun _ => id⟩
  · have hs : ∀ o, s.weigh.slot ≠ .opened o := not_exists.mp h
    cases hf : faulted with
    | true =>
      rw [deliverSample_faulted hs rfl]
      exact ⟨rfl, fun _ => rfl, id, fun _ => id⟩
    | false =>
      cases hc : s.weigh.capture with
      | some a =>
        rw [deliverSample_capture hs rfl hc]
        exact .captureSample x hc
      | none =>
        rw [deliverSample_noCapture hs rfl hc]
        split
        · exact .trackingSample x s
        · exact .refl s

/-- The frame with the Weighing Engine not spelled out. -/
theorem units (h : SampleDelivered s t) : t = { s with
    ring.routine := t.ring.routine
    weigh := t.weigh
    mgmt.latches := t.mgmt.latches
    mgmt.noticePending := t.mgmt.noticePending
    mgmt.counters := t.mgmt.counters } := by
  have hf := h.frame
  conv_rhs => rw [hf]
  exact hf

end SampleDelivered

/-- All that a whole sample frame may touch. -/
theorem sampleDelivered_whole {faulted : Bool} {s t : State} (h : SampleDelivered (sampleTaken faulted s) t) :
    t = { s with
      ring.routine := t.ring.routine
      weigh := { s.weigh with
        receiver := .idle, sampleLoss := t.weigh.sampleLoss, lossTimer := some s.now, slot := t.weigh.slot,
        zero := t.weigh.zero, capture := t.weigh.capture, block := t.weigh.block, run := t.weigh.run,
        counters := t.weigh.counters }
      mgmt.latches := t.mgmt.latches
      mgmt.noticePending := t.mgmt.noticePending
      mgmt.counters := t.mgmt.counters } := by
  have hweigh : t.weigh = { s.weigh with
      receiver := .idle, sampleLoss := t.weigh.sampleLoss, lossTimer := some s.now, slot := t.weigh.slot,
      zero := t.weigh.zero, capture := t.weigh.capture, block := t.weigh.block, run := t.weigh.run,
      counters := t.weigh.counters } := by
    rw [h.frame, sampleTaken_weigh]
  rw [← hweigh]
  refine h.units.trans ?_
  rw [sampleTaken_frame]

/-- Settles O30: the frame's counts and the latches by what a delivery may touch, each consumer by its own cases. -/
theorem sampleFrameDelivers : Obligations.SampleFrameDelivers := by
  refine ⟨fun b x => ⟨SampleBlock.add_first x, SampleBlock.add_further x⟩, fun w x => ⟨OpenWindow.take_summed,
    OpenWindow.take_full, fun h => ⟨OpenWindow.take_collects h, OpenWindow.take_settles h, OpenWindow.take_unquiet h⟩⟩,
    fun s w hawake => ?_⟩
  intro faulted x counts
  have htaken : Taken (.sampleFrame (.frame w)) s (deliverSample x faulted (sampleTaken faulted s)) :=
    taken_of_event (f := sampleFrameEvent (.frame w)) rfl hawake (wholeSampleFrame_eq w s)
  have hu : (sampleTaken faulted s).weigh = { s.weigh with
      receiver := .idle, sampleLoss := s.weigh.sampleLoss && faulted, lossTimer := some s.now, counters := counts } :=
    sampleTaken_weigh
  have hslot : (sampleTaken faulted s).weigh.slot = s.weigh.slot := by rw [hu]
  have hcapture : (sampleTaken faulted s).weigh.capture = s.weigh.capture := by rw [hu]
  have hd := SampleDelivered.deliverSample x faulted (sampleTaken faulted s)
  refine ⟨_, htaken, ?frames, ?faultedFrames, ?timer, ?receiver, ?loss, fun hl hf => ?regained, ?frame,
    fun hf => ?keeps, fun hf => ?discards, fun hs => ?slot, fun o ho => ?opened, fun a hf hs hc hl => ?adds,
    fun a hf hs hc hl => ?completes, fun hf hs hc => ⟨?capture, fun hoff => ?untracked, fun hz ht hn => ?tracked⟩⟩
  case frames => rw [hd.frame, hu]
  case faultedFrames => rw [hd.frame, hu]
  case timer => rw [hd.frame, hu]
  case receiver => rw [hd.frame, hu]
  case loss => rw [hd.frame, hu]
  case regained => exact hd.latch _ (sampleTaken_latch hl hf)
  case frame => exact sampleDelivered_whole hd
  case keeps =>
    rw [deliverSample_faulted_weigh hf, hu]
    exact ⟨rfl, rfl⟩
  case discards =>
    rw [deliverSample_faulted_weigh hf, hu]
    exact ⟨rfl, rfl, rfl⟩
  case slot => rw [hd.slot (by rwa [hslot]), hslot]
  case opened =>
    rw [deliverSample_opened faulted (hslot.trans ho), hu]
    refine ⟨rfl, rfl, rfl, fun hf => ?_, fun ht hf => ?_, fun ht hf => ?_, fun k ht => ?_⟩
    · rw [hf]
      exact ⟨rfl, rfl⟩
    · rw [windowSample_faults ht hf]
    · rw [windowSample_takes ht hf]
    · rw [windowSample_test ht]
      rfl
  case adds =>
    rw [deliverSample_capture (by simp [hslot, hs]) hf (hcapture.trans hc), captureSample_adds hl, hu]
    exact ⟨rfl, rfl, rfl, rfl, rfl⟩
  case completes =>
    have ht := (deliverSample_capture (x := x) (by simp [hslot, hs]) hf (hcapture.trans hc)).trans
      (captureSample_completes hl.ge)
    have hweigh := congrArg State.weigh ht
    rw [appendZeroReply, appendReply_weigh, captureEnded, hu] at hweigh
    rw [hweigh]
    refine ⟨rfl, rfl, rfl, rfl, rfl, fun hloss hr hroom => ?_⟩
    rw [ht, sampleTaken_quiet (by simp [hloss])]
    exact captureEnded_reply _ hr hroom
  case capture => exact hd.capture (hcapture.trans hc)
  case untracked =>
    have hrun : ¬zeroTrackingRuns (sampleTaken faulted s) = true := not_zeroTrackingRuns (by rw [hu]; exact hoff)
    rw [deliverSample_noCapture (by rwa [hslot]) hf (hcapture.trans hc), if_neg hrun, hu]
    exact ⟨rfl, rfl, rfl, rfl⟩
  case tracked =>
    intro b
    have hrun : zeroTrackingRuns (sampleTaken faulted s) = true := by
      apply zeroTrackingRuns_empty <;> rw [hu] <;> assumption
    rw [deliverSample_noCapture (by rwa [hslot]) hf (hcapture.trans hc), if_pos hrun]
    refine ⟨fun hb => ?_, fun hb => ?_⟩
    · rw [trackingSample_collects (by rw [hu]; exact hb), hu]
      exact ⟨rfl, rfl, rfl, rfl⟩
    have hfull : (sampleTaken faulted s).weigh.blockSize ≤ ((sampleTaken faulted s).weigh.block.add x).count := by
      rw [hu]
      exact hb
    refine ⟨trackingSample_emptiesBlock hfull, fun hq => ?_, fun hq hr => ?_, fun hq hr => ?_⟩
    · rw [trackingSample_discards hfull (by rw [hu]; exact hq), discardTracking_weigh, hu]
      exact ⟨rfl, rfl, rfl⟩
    · rw [trackingSample_joins hfull (by rw [hu]; exact hq) (by rw [hu]; exact hr), hu]
      exact ⟨rfl, rfl, rfl⟩
    intro difference
    rw [trackingSample_evaluates hfull (by rw [hu]; exact hq) (by rw [hu]; exact hr)]
    have hdiff : runDifference ((sampleTaken faulted s).weigh.run.sum
        + ((sampleTaken faulted s).weigh.block.add x).sum) (sampleTaken faulted s) = difference := by
      rw [runDifference, hu]
    refine ⟨(evaluateRun_empties _ _).2, fun hd => ?_, fun hd => ?_⟩
    · rw [evaluateRun_adjusts (by rw [hdiff, hu]; exact hd), hdiff, hu]
      exact ⟨rfl, rfl⟩
    · rw [evaluateRun_drifts (by rw [hdiff, hu]; exact hd), raise_weigh, hu]
      exact ⟨rfl, raise_latch _ _, rfl⟩

end Sys2Proof.Machine
end

section
/-! PROOFS. The printed code and its check character, the print and trigger points, and the characters on CODE (R118, R119,
R121, R122, R124, R128, R129, R132, R138): O34 and O35. -/

namespace Sys2Proof.Machine

/-! ## Characters and their values (R119) -/

section
variable {d v w : Nat}

theorem charValue_digit (h : d ≤ 9) : charValue (BitVec.ofNat 8 (0x30 + d)) = d := by
  have hn : (BitVec.ofNat 8 (0x30 + d)).toNat = 0x30 + d := by rw [BitVec.toNat_ofNat]; omega
  simp only [charValue, isDigit, hn]
  simp
  omega

theorem charValue_letter (h : d ≤ 25) : charValue (BitVec.ofNat 8 (0x41 + d)) = 10 + d := by
  have hn : (BitVec.ofNat 8 (0x41 + d)).toNat = 0x41 + d := by rw [BitVec.toNat_ofNat]; omega
  have hdigit : isDigit (BitVec.ofNat 8 (0x41 + d)) = false := by
    simp only [isDigit, hn, Bool.and_eq_false_iff, decide_eq_false_iff_not]
    omega
  rw [charValue, hdigit, hn]
  simp
  omega

theorem valueChar_digit (h : d ≤ 9) : valueChar d = BitVec.ofNat 8 (0x30 + d) := if_pos (by omega)

theorem valueChar_letter (d : Nat) : valueChar (10 + d) = BitVec.ofNat 8 (0x41 + d) := by
  rw [valueChar, if_neg (by omega), Nat.add_sub_cancel_left]

theorem charValue_valueChar (h : v < 36) : charValue (valueChar v) = v := by
  by_cases hv : v ≤ 9
  · rw [valueChar_digit hv, charValue_digit hv]
  · obtain ⟨d, rfl⟩ : ∃ d, v = 10 + d := ⟨v - 10, by omega⟩
    rw [valueChar_letter, charValue_letter (by omega)]

/-- Two values below 36 with one character are one value. -/
theorem valueChar_inj (hv : v < 36) (hw : w < 36) (h : valueChar v = valueChar w) : v = w := by
  rw [← charValue_valueChar hv, h, charValue_valueChar hw]

/-- A code character is the character of its value, which is below 36. -/
theorem valueChar_charValue {b : Byte} (h : isCodeChar b = true) :
    charValue b < 36 ∧ valueChar (charValue b) = b := by
  simp only [isCodeChar, isDigit, isUpper, Bool.or_eq_true, Bool.and_eq_true, decide_eq_true_eq] at h
  obtain ⟨d, hd, rfl⟩ | ⟨d, hd, rfl⟩ :
      (∃ d, d ≤ 9 ∧ b = BitVec.ofNat 8 (0x30 + d)) ∨ ∃ d, d ≤ 25 ∧ b = BitVec.ofNat 8 (0x41 + d) := by
    rcases h with h | h
    · exact .inl ⟨b.toNat - 0x30, by omega, by rw [Nat.add_sub_cancel' h.1, BitVec.ofNat_toNat, BitVec.setWidth_eq]⟩
    · exact .inr ⟨b.toNat - 0x41, by omega, by rw [Nat.add_sub_cancel' h.1, BitVec.ofNat_toNat, BitVec.setWidth_eq]⟩
  · rw [charValue_digit hd, valueChar_digit hd]
    exact ⟨by omega, rfl⟩
  · rw [charValue_letter hd, valueChar_letter]
    exact ⟨by omega, rfl⟩

end

/-! ## The check character (R119) -/

theorem checkChar_eq_sum (cs : List Byte) : checkChar cs = valueChar ((cs.map charValue).sum % 36) := by
  rw [checkChar, List.sum_eq_foldl]

/-- Two code characters in one place of a text give it two sums modulo 36, since their values differ by less than 36. -/
theorem checkChar_ne_of_ne {a b : Byte} (ha : isCodeChar a = true) (hb : isCodeChar b = true) (hne : a ≠ b)
    (pre post : List Byte) : checkChar (pre ++ a :: post) ≠ checkChar (pre ++ b :: post) := by
  obtain ⟨hla, hva⟩ := valueChar_charValue ha
  obtain ⟨hlb, hvb⟩ := valueChar_charValue hb
  have hvalue : charValue a ≠ charValue b := fun h => hne (by rw [← hva, h, hvb])
  intro h
  rw [checkChar_eq_sum, checkChar_eq_sum] at h
  have hsum := valueChar_inj (Nat.mod_lt _ (by omega)) (Nat.mod_lt _ (by omega)) h
  simp only [List.map_append, List.map_cons, List.sum_append, List.sum_cons] at hsum
  omega

@[simp] theorem length_digits (base n x : Nat) : (digits base n x).length = n := by
  induction n with
  | zero => rfl
  | succ n ih => rw [digits, List.length_cons, ih]

theorem length_codeBody (code valve : Nat) {lot : List Byte} (serial : Serial) (h : lot.length = 6) :
    (codeBody code lot valve serial).length = 15 := by
  simp [codeBody, h]

/-- A text of sixteen characters of the right classes, read without a mark, stands or falls by its check (R132). -/
theorem validateRead_classed {t : List Byte} (hl : t.length = 16) (hc : classesHold t = true) :
    validateRead {} t = if byteAt t 15 ≠ checkChar (t.take 15) then .badcode .check else .wellFormed := by
  simp [validateRead, Config.codeLength, hl, hc]

/-- Settles O34. -/
theorem checkCharacterCatchesChanges : Obligations.CheckCharacterCatchesChanges := by
  refine ⟨fun code valve lot serial => ⟨codeBody code lot valve serial, rfl, length_codeBody code valve serial⟩,
    fun d h => ⟨charValue_digit h, valueChar_digit h⟩, fun d h => ⟨charValue_letter h, valueChar_letter d⟩,
    checkChar_eq_sum, fun t hl hc => ?validation, fun pre post a b ha hb hne => checkChar_ne_of_ne ha hb hne pre post⟩
  rw [validateRead_classed hl hc]
  by_cases h : byteAt t 15 = checkChar (t.take 15) <;> simp [h]

/-! ## The print and trigger points (R121, R122, R128) -/

section
variable {s : State} {n : Serial} {r : CanRecord}

theorem printPoint_queued (h : repeaterOnly s = false) (hr : findRecord n s.track.queue = some r)
    (hl : s.ring.urgent.length < 8) : printPoint n s =
      { s with
        ring.urgent := s.ring.urgent ++ [printFrame s r s.code.lot]
        track.queue := updateRecord n (fun r => { r with lot := some s.code.lot, print := .requested }) s.track.queue
        code.counters.printsRequested := s.code.counters.printsRequested + 1 } := by
  simp only [printPoint, hr, appendUrgent_room h hl]
  rfl

theorem printPoint_skipped (hr : findRecord n s.track.queue = some r) (hl : 8 ≤ s.ring.urgent.length) :
    printPoint n s =
      { s with
        track.queue := updateRecord n (fun r => { r with lot := some s.code.lot, print := .skipped }) s.track.queue
        code.counters.printsSkipped := s.code.counters.printsSkipped + 1 } := by
  simp only [printPoint, hr, appendUrgent_full hl]
  rfl

/-- What makes a trigger be dropped (R128). -/
theorem triggerDropped_iff (c : CodeUnit) :
    (!c.enable || c.sending.isSome || receptionInProgress c) = true ↔
      c.enable = false ∨ c.sending ≠ none ∨ c.readState = .receiving ∨ c.readState = .inBreak ∨ c.underWay = true := by
  simp [receptionInProgress, Option.isSome_iff_ne_none, or_assoc]

theorem triggerPoint_drops (h : s.code.enable = false ∨ s.code.sending ≠ none ∨ s.code.readState = .receiving
      ∨ s.code.readState = .inBreak ∨ s.code.underWay = true) :
    triggerPoint s = { s with code.counters.triggersDropped := s.code.counters.triggersDropped + 1 } :=
  if_pos ((triggerDropped_iff s.code).mpr h)

theorem triggerPoint_sends (he : s.code.enable = true) (hs : s.code.sending = none)
    (hr : s.code.readState ≠ .receiving) (hb : s.code.readState ≠ .inBreak) (hu : s.code.underWay = false) :
    triggerPoint s =
      { s with
        code.sending := some ⟨0x54, s.now⟩
        code.idleTimer := none
        code.lowSince := none
        code.counters.triggersSent := s.code.counters.triggersSent + 1 } :=
  if_neg (by rw [triggerDropped_iff]; simp [he, hs, hr, hb, hu])

/-! ## The end of a trigger, and the level on CODE (R124, R129, R138) -/

variable {data : Byte} {since : Ticks}

theorem triggerSentEvent_high (h : s.code.sending = some ⟨data, since⟩) : triggerSentEvent true s =
    { s with
      now := max s.now (since + (10 * 8000000 + (s.code.rate - 1)) / s.code.rate)
      code.sending := none
      code.lineHigh := true
      code.readState := .ready } := by
  simp only [triggerSentEvent, h]
  rfl

theorem triggerSentEvent_low (h : s.code.sending = some ⟨data, since⟩) : triggerSentEvent false s =
    { s with
      now := max s.now (since + (10 * 8000000 + (s.code.rate - 1)) / s.code.rate)
      code.sending := none
      code.lineHigh := false
      code.lowSince := some (max s.now (since + (10 * 8000000 + (s.code.rate - 1)) / s.code.rate))
      code.readState := .waitIdle } := by
  simp only [triggerSentEvent, h]
  rfl

theorem bitIndex_eq {elapsed rate k : Nat} (lo : k * 8000000 ≤ elapsed * rate)
    (hi : elapsed * rate < (k + 1) * 8000000) : bitIndex elapsed rate = k :=
  Nat.div_eq_of_lt_le lo hi

theorem codeOut_released (h : s.resetLow = true ∨ s.code.sending = none) : s.codeOut = true := by
  rcases h with h | h <;> simp [State.codeOut, h]

theorem codeOut_sending {k : Nat} (h : Awake s) (hs : s.code.sending = some ⟨data, since⟩) (hk : k < 10)
    (hi : bitIndex (s.now - since) s.code.rate = k) :
    s.codeOut = (codeCharacter s.code.format data).getLsbD k := by
  simp [State.codeOut, show s.resetLow = false from h, hs, hi, Config.codeCharacterBits, hk]

end

/-- The fields of a code port character in 8N1: start bit 0, the data, stop bit 1 (R124). -/
theorem codeCharacter_eightN1 (d : Byte) :
    (codeCharacter .eightN1 d).getLsbD 0 = false ∧ (codeCharacter .eightN1 d).extractLsb' 1 8 = d
      ∧ (codeCharacter .eightN1 d).getLsbD 9 = true := by
  have h : ∀ n : Fin 256, (codeCharacter .eightN1 (BitVec.ofFin n)).getLsbD 0 = false
      ∧ (codeCharacter .eightN1 (BitVec.ofFin n)).extractLsb' 1 8 = BitVec.ofFin n
      ∧ (codeCharacter .eightN1 (BitVec.ofFin n)).getLsbD 9 = true := by decide +kernel
  exact h d.toFin

/-- The fields of a code port character in 7E1: start bit 0, seven data bits, even ones with the parity bit, stop bit 1
(R124). -/
theorem codeCharacter_sevenE1 (d : Byte) :
    (codeCharacter .sevenE1 d).getLsbD 0 = false
      ∧ (codeCharacter .sevenE1 d).extractLsb' 1 7 = d.extractLsb' 0 7
      ∧ onesBelow 9 (codeCharacter .sevenE1 d) % 2 = 0 ∧ (codeCharacter .sevenE1 d).getLsbD 9 = true := by
  have h : ∀ n : Fin 256, (codeCharacter .sevenE1 (BitVec.ofFin n)).getLsbD 0 = false
      ∧ (codeCharacter .sevenE1 (BitVec.ofFin n)).extractLsb' 1 7 = (BitVec.ofFin n : Byte).extractLsb' 0 7
      ∧ onesBelow 9 (codeCharacter .sevenE1 (BitVec.ofFin n)) % 2 = 0
      ∧ (codeCharacter .sevenE1 (BitVec.ofFin n)).getLsbD 9 = true := by decide +kernel
  exact h d.toFin

/-- Settles O35. -/
theorem printAndTriggerPoints : Obligations.PrintAndTriggerPoints := by
  refine ⟨fun s n r h hr => ⟨fun hl => printPoint_queued h hr hl, fun hl => printPoint_skipped hr hl⟩,
    fun s => ⟨fun he hs hr hb hu => triggerPoint_sends he hs hr hb hu, triggerPoint_drops⟩,
    fun s data since high h hs _ => ⟨?readyAgain, ?waitsIdle⟩, fun d => ?fields, by decide,
    fun s => ⟨codeOut_released, fun data since k h hs hk lo hi => codeOut_sending h hs hk (bitIndex_eq lo hi)⟩⟩
  case readyAgain =>
    rintro rfl
    exact taken_of_event rfl h (triggerSentEvent_high hs)
  case waitsIdle =>
    rintro rfl
    exact taken_of_event rfl h (triggerSentEvent_low hs)
  case fields =>
    obtain ⟨hstart, hdata, hstop⟩ := codeCharacter_eightN1 d
    exact ⟨hstart, hdata, hstop, codeCharacter_sevenE1 d⟩

end Sys2Proof.Machine
end

section
/-! PROOFS. The code port: characters and breaks, the framing of reads, their completion and their assignment to records
(R125 to R127, R130 to R136, R140): O36 to O39. -/

namespace Sys2Proof.Machine

/-! ## Assignment (R134, R135, R136) -/

/-- The counters after an assignment that answered the result `x`, or an orphan. -/
def CodeCounters.assigned (c : CodeCounters) (x : Option CodeResult) : CodeCounters :=
  { c with
    orphans := if x = none then c.orphans + 1 else c.orphans
    matched := if x = some .matched then c.matched + 1 else c.matched
    contentMismatches := if x = some .contentMismatch then c.contentMismatches + 1 else c.contentMismatches
    tagMismatches := if x = some .tagMismatch then c.tagMismatches + 1 else c.tagMismatches }

/-- What the assignment `a` does: its result written into its record, and counted. -/
def assignTo (a : Assigned) (s : State) : State :=
  { s with
    track.queue := a.elim s.track.queue (fun x => (writeCode x.1 x.2 s).track.queue)
    code.counters := s.code.counters.assigned (a.map Prod.snd) }

/-- A read's tag names a record (R136). -/
def tagNames (t : List Byte) (r : CanRecord) : Bool := r.serial.toNat == readSerial t && r.valve == readValve t

/-- The result of a read for the record that its tag names (R136, step 1). -/
def namedResult (s : State) (r : CanRecord) (t : List Byte) : CodeResult :=
  if contentAgrees s r t then .matched else .contentMismatch

/-- The record and the result of a well-formed read (R136). -/
def taggedAssignee (e : Count) (t : List Byte) (s : State) : Assigned :=
  match (candidates s e).find? (tagNames t) with
  | some r => some (r.serial, namedResult s r t)
  | none => (candidates s e).head?.map (fun r => (r.serial, .tagMismatch))

/-- The oldest candidate and a result for it (R135). -/
def oldestAssignee (e : Count) (x : CodeResult) (s : State) : Assigned :=
  (candidates s e).head?.map (fun r => (r.serial, x))

section
variable {s : State} {e : Count} {t : List Byte} {r : CanRecord} {rest : List CanRecord} {x : CodeResult}

theorem taggedAssignee_named (h : (candidates s e).find? (tagNames t) = some r) :
    taggedAssignee e t s = some (r.serial, namedResult s r t) := by
  simp only [taggedAssignee, h]

theorem taggedAssignee_unnamed (h : (candidates s e).find? (tagNames t) = none) :
    taggedAssignee e t s = oldestAssignee e .tagMismatch s := by
  simp only [taggedAssignee, h]
  rfl

theorem oldestAssignee_nil (h : candidates s e = []) : oldestAssignee e x s = none := by simp [oldestAssignee, h]

theorem oldestAssignee_cons (h : candidates s e = r :: rest) : oldestAssignee e x s = some (r.serial, x) := by
  simp [oldestAssignee, h]

theorem taggedAssignee_nil (h : candidates s e = []) : taggedAssignee e t s = none := by
  rw [taggedAssignee_unnamed (by rw [h]; rfl), oldestAssignee_nil h]

/-- A well-formed read is assigned to its assignee. -/
theorem assignTagged_eq (e : Count) (t : List Byte) (s : State) :
    assignTagged e t s = (taggedAssignee e t s, assignTo (taggedAssignee e t s) s) := by
  cases hf : (candidates s e).find? (tagNames t) with
  | some r =>
    rw [taggedAssignee_named hf]
    unfold tagNames at hf
    simp only [assignTagged, hf, namedResult]
    split <;> rfl
  | none =>
    rw [taggedAssignee_unnamed hf]
    unfold tagNames at hf
    simp only [assignTagged, hf]
    cases hc : candidates s e with
    | nil => rw [oldestAssignee_nil hc]; rfl
    | cons r rest => rw [oldestAssignee_cons hc]; rfl

/-- A report without a text is assigned to the oldest candidate, its result uncounted here (R135). -/
theorem assignOldest_eq (hx : ∀ c : CodeCounters, c.assigned (some x) = c) :
    assignOldest e x s = (oldestAssignee e x s, assignTo (oldestAssignee e x s) s) := by
  unfold assignOldest
  cases hc : candidates s e with
  | nil => rw [oldestAssignee_nil hc]; rfl
  | cons r rest =>
    rw [oldestAssignee_cons hc]
    simp only [assignTo, Option.map_some, hx]
    rfl

theorem namedResult_matched_iff : namedResult s r t = .matched ↔
    readProduct t = digits 10 4 (recordCode s r) ∧ r.lot = some (readLot t) := by
  simp [namedResult, contentAgrees]

theorem namedResult_cases (s : State) (r : CanRecord) (t : List Byte) :
    namedResult s r t = .matched ∨ namedResult s r t = .contentMismatch := by
  unfold namedResult
  split
  · exact .inl rfl
  · exact .inr rfl

end

/-- Settles O39, by the read's assignee. -/
theorem readsAssignedByTag : Obligations.ReadsAssignedByTag := by
  intro s e t
  rw [assignTagged_eq]
  refine ⟨fun h => ?orphan, fun r h => ?named, fun r rest h hn => ?unnamed⟩
  case orphan =>
    rw [taggedAssignee_nil h]
    rfl
  case named =>
    rw [taggedAssignee_named h]
    exact ⟨_, rfl, namedResult_matched_iff, namedResult_cases s r t, rfl⟩
  case unnamed =>
    rw [taggedAssignee_unnamed hn, oldestAssignee_cons h]
    exact ⟨rfl, rfl, rfl⟩

/-! ## A read in progress abandoned (R127, R133) -/

/-- The Code Unit's record with a read in progress abandoned. -/
def CodeUnit.readAbandoned (c : CodeUnit) : CodeUnit :=
  { c with
    fifo := if c.readState = .receiving then [] else c.fifo
    marks := if c.readState = .receiving then {} else c.marks
    delivered := if c.readState = .receiving then 0 else c.delivered
    counters.abandoned :=
      if c.readState = .receiving then c.counters.abandoned + 1 else c.counters.abandoned }

theorem abandonRead_eq (s : State) : abandonRead s = { s with code := s.code.readAbandoned } := by
  by_cases h : s.code.readState = .receiving <;> simp [abandonRead, CodeUnit.readAbandoned, emptyRead, h]

/-! ## The receiver's watch (R124) -/

theorem receiverWatches_of {c : CodeUnit} (ho : c.readState ≠ .off) (hb : c.readState ≠ .inBreak)
    (hs : c.sending = none) : receiverWatches c = true := by simp [receiverWatches, ho, hb, hs]

theorem on_of_receiverWatches {c : CodeUnit} (h : receiverWatches c = true) : c.readState ≠ .off := by
  intro ho
  simp [receiverWatches, ho] at h

/-! ## A break (R125, R133) -/

/-- The state in which a no-read report is assigned: a read in progress abandoned, the report counted. -/
def noReadCounted (s : State) : State :=
  { s with code := { s.code.readAbandoned with counters.noReads := s.code.counters.noReads + 1 } }

/-- The state after a no-read report that was assigned as `a` gives (R133). -/
def breakRecorded (a : Assigned) (s : State) : State :=
  { s with
    code.lastRead := some ⟨.noRead, [], 0, s.input.count, a.map Prod.fst, a.map Prod.snd⟩
    code.readState := .inBreak
    code.idleTimer := none
    code.lineHigh := false
    code.underWay := false
    code.lowSince := none }

section
variable {s : State}

theorem breakDetected_idle (h : s.track.line = .idle) :
    breakDetected s = breakRecorded none (noReadCounted s) := by
  unfold breakDetected
  rw [abandonRead_eq]
  simp only [h]
  rfl

theorem breakDetected_run (h : s.track.line = .run) :
    breakDetected s = breakRecorded (oldestAssignee s.input.count .noread s)
      (assignTo (oldestAssignee s.input.count .noread s) (noReadCounted s)) := by
  unfold breakDetected
  rw [abandonRead_eq]
  simp only [h]
  rw [assignOldest_eq (fun _ => rfl)]
  rfl

/-- A break leaves no trace of how long the line was low before it. -/
theorem breakDetected_level (s : State) (high : Bool) (low : Option Ticks) :
    breakDetected { s with code.lineHigh := high, code.lowSince := low } = breakDetected s := by
  cases h : s.track.line with
  | idle => exact Eq.trans (breakDetected_idle (by exact h)) (breakDetected_idle h).symm
  | run => exact Eq.trans (breakDetected_run (by exact h)) (breakDetected_run h).symm

/-- What a break does whatever its report is assigned to (R133). -/
theorem breakDetected_always (s : State) :
    breakDetected s = { s with track.queue := (breakDetected s).track.queue, code := (breakDetected s).code }
      ∧ (breakDetected s).code.readState = .inBreak ∧ (breakDetected s).code.idleTimer = none
      ∧ (breakDetected s).code.lineHigh = false
      ∧ (breakDetected s).code.counters.noReads = s.code.counters.noReads + 1
      ∧ (breakDetected s).code.counters.abandoned = s.code.readAbandoned.counters.abandoned
      ∧ (breakDetected s).code.fifo = s.code.readAbandoned.fifo
      ∧ (breakDetected s).code.marks = s.code.readAbandoned.marks := by
  cases h : s.track.line with
  | idle =>
    rw [breakDetected_idle h]
    exact ⟨rfl, rfl, rfl, rfl, rfl, rfl, rfl, rfl⟩
  | run =>
    rw [breakDetected_run h]
    exact ⟨rfl, rfl, rfl, rfl, rfl, rfl, rfl, rfl⟩

/-! ## The events of the line (R125, R126) -/

variable {since : Ticks}

theorem codeBreakEvent_off (h : s.code.readState = .off) :
    codeBreakEvent s = { s with code.lineHigh := false } := by simp [codeBreakEvent, h]

theorem codeBreakEvent_high (hw : receiverWatches s.code = true) (hl : s.code.lineHigh = true)
    (hs : s.code.lowSince = none) : codeBreakEvent s = breakDetected s := by
  simp [codeBreakEvent, on_of_receiverWatches hw, hw, hl, hs]

theorem codeBreakEvent_low (hw : receiverWatches s.code = true) (hs : s.code.lowSince = some since) :
    codeBreakEvent s = breakDetected (advanceTo (since + codeCharacterTicks s.code.rate) s) := by
  simp [codeBreakEvent, on_of_receiverWatches hw, hw, hs]

theorem codeBreakEndEvent_off (h : s.code.readState = .off) :
    codeBreakEndEvent s = { s with code.lineHigh := true } := by simp only [codeBreakEndEvent, h]

theorem codeBreakEndEvent_inBreak (h : s.code.readState = .inBreak) : codeBreakEndEvent s =
    { s with code.readState := .waitIdle, code.lineHigh := true, code.idleTimer := some s.now } := by
  simp only [codeBreakEndEvent, h]

theorem codeLineHighEvent_off (h : s.code.readState = .off) :
    codeLineHighEvent s = { s with code.lineHigh := true } := by simp [codeLineHighEvent, h]

theorem codeLineHighEvent_low (hw : receiverWatches s.code = true) (hl : s.code.lineHigh = false) :
    codeLineHighEvent s =
      { s with code.lineHigh := true, code.lowSince := none, code.idleTimer := some s.now } := by
  simp [codeLineHighEvent, on_of_receiverWatches hw, hw, hl]

end

/-- Settles O37: the report by the line state and the oldest candidate, the other events by the read state. -/
theorem codeBreakReportsNoRead : Obligations.CodeBreakReportsNoRead := by
  refine ⟨fun s h ho hb hs hl hn => ?report, fun s since h ho hb hs hn _ => ?watched,
    fun s h ho => ⟨taken_of_event rfl h (codeBreakEvent_off ho), taken_of_event rfl h (codeBreakEndEvent_off ho),
      taken_of_event rfl h (codeLineHighEvent_off ho)⟩,
    fun s h hb => taken_of_event rfl h (codeBreakEndEvent_inBreak hb),
    fun s h ho hb hs hl => taken_of_event rfl h (codeLineHighEvent_low (receiverWatches_of ho hb hs) hl)⟩
  case report =>
    obtain ⟨hframe, hstate, htimer, hlow, hnoReads, habandoned, hfifo, hmarks⟩ := breakDetected_always s
    refine ⟨breakDetected s, taken_of_event rfl h (codeBreakEvent_high (receiverWatches_of ho hb hs) hl hn), hframe,
      hstate, htimer, hlow, hnoReads, habandoned, fun hr => ⟨hfifo.trans (if_pos hr), hmarks.trans (if_pos hr)⟩,
      fun hi => ?idle, fun hr hc => ?orphan, fun r rest hr hc => ?candidate⟩
    case idle =>
      rw [breakDetected_idle hi]
      exact ⟨rfl, rfl⟩
    case orphan =>
      rw [breakDetected_run hr, oldestAssignee_nil hc]
      exact ⟨rfl, rfl, rfl⟩
    case candidate =>
      rw [breakDetected_run hr, oldestAssignee_cons hc]
      exact ⟨rfl, rfl⟩
  case watched =>
    have hw := receiverWatches_of ho hb hs
    have hlevel := breakDetected_level (advanceTo (since + codeCharacterTicks s.code.rate) s) true none
    exact Eq.trans (taken_of_event rfl h ((codeBreakEvent_low hw hn).trans hlevel.symm))
      (Eq.symm (taken_of_event rfl h (codeBreakEvent_high hw rfl rfl)))

/-! ## Characters (R124, R125, R130) -/

section
variable {s : State} {d : Byte} {p f : Bool}

/-- A character taken into a read changes the read's count, FIFO and marks, and nothing else. -/
theorem takeCharacter_frame (d : Byte) (p f : Bool) (s : State) : takeCharacter d p f s = { s with
    code.delivered := min 255 (s.code.delivered + 1)
    code.fifo := (takeCharacter d p f s).code.fifo
    code.marks := (takeCharacter d p f s).code.marks } := by
  unfold takeCharacter
  dsimp only
  split_ifs <;> rfl

theorem takeCharacter_discards (h : s.code.marks.discarding = true) :
    takeCharacter d p f s = { s with code.delivered := min 255 (s.code.delivered + 1) } := by
  simp [takeCharacter, h]

theorem takeCharacter_framingFault (h : s.code.marks.discarding = false) : takeCharacter d p true s = { s with
    code.delivered := min 255 (s.code.delivered + 1)
    code.marks.framing := true
    code.marks.discarding := true } := by
  simp [takeCharacter, h]

theorem takeCharacter_room (h : s.code.marks.discarding = false) (hl : s.code.fifo.length < 32) :
    takeCharacter d p false s = { s with
      code.delivered := min 255 (s.code.delivered + 1)
      code.fifo := s.code.fifo ++ [d]
      code.marks.parity := s.code.marks.parity || p } := by
  simp [takeCharacter, h, Config.fifoCapacity, hl]

theorem takeCharacter_full (h : s.code.marks.discarding = false) (hl : 32 ≤ s.code.fifo.length) :
    takeCharacter d p false s = { s with
      code.delivered := min 255 (s.code.delivered + 1)
      code.marks.overrun := true } := by
  simp [takeCharacter, h, Config.fifoCapacity, Nat.not_lt.mpr hl]

theorem frameCharacter_waitIdle (h : s.code.readState = .waitIdle) : frameCharacter d p f s =
    { s with code.counters.outside := s.code.counters.outside + 1 } := by
  simp only [frameCharacter, h]

/-- In READY and in RECEIVING alike the character is taken into a read in progress. -/
theorem frameCharacter_taken (h : s.code.readState = .ready ∨ s.code.readState = .receiving) :
    frameCharacter d p f s = takeCharacter d p f { s with code.readState := .receiving } := by
  rcases h with h | h <;> simp only [frameCharacter, h]
  rw [← h]

/-- Framing a character changes the read and the count of characters outside one, and nothing else. -/
theorem frameCharacter_frame (d : Byte) (p f : Bool) (s : State) : frameCharacter d p f s = { s with
    code.readState := (frameCharacter d p f s).code.readState
    code.fifo := (frameCharacter d p f s).code.fifo
    code.marks := (frameCharacter d p f s).code.marks
    code.delivered := (frameCharacter d p f s).code.delivered
    code.counters.outside := (frameCharacter d p f s).code.counters.outside } := by
  unfold frameCharacter
  split
  · rfl
  · rw [takeCharacter_frame]
  · rw [takeCharacter_frame]
  · rfl
  · rfl

/-- The state in which an ended character is framed: its noise counted, nothing under way. -/
def characterReceived (noisy : Bool) (s : State) : State :=
  { s with
    code.underWay := false
    code.counters.noisy := if noisy then s.code.counters.noisy + 1 else s.code.counters.noisy }

/-- The state after a framed character: the line and the idle timer, by whether a framing fault left the line low. -/
def characterFramed (low : Bool) (s : State) : State :=
  { s with
    code.lineHigh := s.code.lineHigh && !low
    code.idleTimer := if low then none else some s.now }

variable {c : CodeSamples} {n : Bool}

theorem characterEnds_falseStart (h : receiveCode s.code.format c = .falseStart) :
    characterEnds c s = { s with code.underWay := false } := by
  simp only [characterEnds, h]

theorem characterEnds_break (h : receiveCode s.code.format c = .lineBreak) :
    characterEnds c s = breakDetected s := by
  simp only [characterEnds, h]

theorem characterEnds_character (h : receiveCode s.code.format c = .character d p f n) :
    characterEnds c s =
      characterFramed (f && c.lowAtEnd) (frameCharacter d p f (characterReceived n s)) := by
  simp only [characterEnds, h]
  cases n <;> cases f && c.lowAtEnd <;> simp [characterFramed, characterReceived]

theorem codeCharacterEvent_falls (hw : receiverWatches s.code = true) (hl : s.code.lineHigh = true) :
    codeCharacterEvent .falls s = { s with code.underWay := true } := by
  simp [codeCharacterEvent, hw, hl]

theorem codeCharacterEvent_ends (hw : receiverWatches s.code = true) (hl : s.code.lineHigh = true) :
    codeCharacterEvent (.ends c) s = characterEnds c s := by
  simp [codeCharacterEvent, hw, hl]

end

/-- Settles O36: the end of a character by what the receiver makes of it, a delivered one by the read state. -/
theorem codeCharactersFramed : Obligations.CodeCharactersFramed := by
  intro s h ho hb hs hl
  have hw := receiverWatches_of ho hb hs
  have hends {c : CodeSamples} {t : State} (ht : characterEnds c s = t) : Taken (.codeCharacter (.ends c)) s t :=
    taken_of_event rfl h ((codeCharacterEvent_ends hw hl).trans ht)
  refine ⟨taken_of_event rfl h (codeCharacterEvent_falls hw hl), fun c hr => hends (characterEnds_falseStart hr),
    fun c hr hn => ?lineBreak, fun c d p f n hr => ?character⟩
  case lineBreak =>
    exact Eq.trans (hends (characterEnds_break hr)) (Eq.symm (taken_of_event rfl h (codeBreakEvent_high hw hl hn)))
  case character =>
    have hframe := frameCharacter_frame d p f (characterReceived n s)
    refine ⟨_, hends (characterEnds_character hr), ?frame, ?underWay, ?noisy, ?timer, ?line, fun hr => ?outside,
      fun hr => ?taken⟩
    case frame => rw [hframe]; rfl
    case underWay => rw [hframe]; rfl
    case noisy => rw [hframe]; rfl
    case timer => rw [hframe]; rfl
    case line =>
      rw [hframe]
      show (s.code.lineHigh && !(f && c.lowAtEnd)) = _
      rw [hl, Bool.true_and]
    case outside =>
      rw [frameCharacter_waitIdle (s := characterReceived n s) hr]
      exact ⟨hr, rfl, rfl⟩
    case taken =>
      let u : State := { characterReceived n s with code.readState := .receiving }
      rw [frameCharacter_taken (s := characterReceived n s) hr]
      refine ⟨?state, ?delivered, fun hd => ?discards, fun hd hf => ?fault, fun hd hf hlt => ?room,
        fun hd hf hle => ?full⟩
      case state => rw [takeCharacter_frame]; rfl
      case delivered => rw [takeCharacter_frame]; rfl
      case discards =>
        rw [takeCharacter_discards (s := u) hd]
        exact ⟨rfl, rfl⟩
      case fault =>
        rw [hf, takeCharacter_framingFault (s := u) hd]
        exact ⟨rfl, rfl⟩
      case room =>
        rw [hf, takeCharacter_room (s := u) hd hlt]
        exact ⟨rfl, rfl⟩
      case full =>
        rw [hf, takeCharacter_full (s := u) hd hle]
        exact ⟨rfl, rfl⟩

/-! ## The end of a read (R131, R132, R140) -/

/-- The counters after a completed read of this outcome: the read, and a bad one by its fault type (R132). -/
def CodeCounters.completed (c : CodeCounters) (o : ReadOutcome) : CodeCounters :=
  { c with
    reads := c.reads + 1
    badOverrun := if o = .badcode .overrun then c.badOverrun + 1 else c.badOverrun
    badFraming := if o = .badcode .framing then c.badFraming + 1 else c.badFraming
    badParity := if o = .badcode .parity then c.badParity + 1 else c.badParity
    badLength := if o = .badcode .length then c.badLength + 1 else c.badLength
    badClass := if o = .badcode .charClass then c.badClass + 1 else c.badClass
    badCheck := if o = .badcode .check then c.badCheck + 1 else c.badCheck }

/-- The state in which a completed read is assigned. -/
def readCounted (s : State) : State :=
  { s with code.counters := s.code.counters.completed (validateRead s.code.marks s.code.fifo) }

/-- The state after a completed read that was assigned as `a` gives (R131). -/
def readRecorded (a : Assigned) (s : State) : State :=
  emptyRead { s with
    code.lastRead := some ⟨validateRead s.code.marks s.code.fifo, s.code.fifo.take 16, s.code.delivered,
      s.input.count, a.map Prod.fst, a.map Prod.snd⟩
    code.readState := .ready }

theorem validateRead_ne_noRead (m : ReadMarks) (t : List Byte) : validateRead m t ≠ .noRead := by
  unfold validateRead
  split_ifs <;> nofun

section
variable {s : State} {f : ReadFault}

/-- A completed read is counted, assigned and recorded. -/
theorem completeRead_eq (s : State) :
    completeRead s =
      (let r := assignRead s.input.count (validateRead s.code.marks s.code.fifo) s.code.fifo (readCounted s)
       emptyRead { r.2 with
        code.lastRead := some ⟨validateRead s.code.marks s.code.fifo, s.code.fifo.take 16, s.code.delivered,
          s.input.count, r.1.map Prod.fst, r.1.map Prod.snd⟩
        code.readState := .ready }) := by
  unfold completeRead readCounted
  cases h : validateRead s.code.marks s.code.fifo with
  | noRead => exact absurd h (validateRead_ne_noRead _ _)
  | wellFormed =>
    simp only [h]
    rfl
  | badcode f =>
    simp only [h]
    cases f <;> rfl

theorem assignRead_idle {e : Count} {o : ReadOutcome} {t : List Byte} (h : s.track.line = .idle) :
    assignRead e o t s = (none, { s with code.counters.idleReads := s.code.counters.idleReads + 1 }) := by
  simp only [assignRead, h]

theorem assignRead_wellFormed {e : Count} {t : List Byte} (h : s.track.line = .run) :
    assignRead e .wellFormed t s = (taggedAssignee e t s, assignTo (taggedAssignee e t s) s) := by
  simp only [assignRead, h, assignTagged_eq]

theorem assignRead_bad {e : Count} {t : List Byte} (h : s.track.line = .run) :
    assignRead e (.badcode f) t s = (oldestAssignee e .badcode s, assignTo (oldestAssignee e .badcode s) s) := by
  simp only [assignRead, h]
  exact assignOldest_eq fun _ => rfl

theorem completeRead_idle (h : s.track.line = .idle) : completeRead s =
    readRecorded none
      { readCounted s with code.counters.idleReads := (readCounted s).code.counters.idleReads + 1 } := by
  rw [completeRead_eq, assignRead_idle (s := readCounted s) h]
  rfl

theorem completeRead_wellFormed (h : s.track.line = .run)
    (hv : validateRead s.code.marks s.code.fifo = .wellFormed) : completeRead s =
      readRecorded (taggedAssignee s.input.count s.code.fifo s)
        (assignTo (taggedAssignee s.input.count s.code.fifo s) (readCounted s)) := by
  rw [completeRead_eq, hv, assignRead_wellFormed (s := readCounted s) h, ← hv]
  rfl

theorem completeRead_bad (h : s.track.line = .run) (hv : validateRead s.code.marks s.code.fifo = .badcode f) :
    completeRead s = readRecorded (oldestAssignee s.input.count .badcode s)
      (assignTo (oldestAssignee s.input.count .badcode s) (readCounted s)) := by
  rw [completeRead_eq, hv, assignRead_bad (s := readCounted s) h, ← hv]
  rfl

/-- What the end of a read does whatever the read is assigned to (R131). -/
theorem completeRead_always (s : State) :
    completeRead s = { s with track.queue := (completeRead s).track.queue, code := (completeRead s).code }
      ∧ (completeRead s).code.readState = .ready ∧ (completeRead s).code.fifo = []
      ∧ (completeRead s).code.marks = {} ∧ (completeRead s).code.idleTimer = s.code.idleTimer
      ∧ (completeRead s).code.counters.reads = s.code.counters.reads + 1
      ∧ ∃ l, (completeRead s).code.lastRead = some l ∧ l.outcome = validateRead s.code.marks s.code.fifo
          ∧ l.text = s.code.fifo.take 16 ∧ l.delivered = s.code.delivered ∧ l.count = s.input.count := by
  cases h : s.track.line with
  | idle =>
    rw [completeRead_idle h]
    exact ⟨rfl, rfl, rfl, rfl, rfl, rfl, _, rfl, rfl, rfl, rfl, rfl⟩
  | run =>
    cases hv : validateRead s.code.marks s.code.fifo with
    | noRead => exact absurd hv (validateRead_ne_noRead _ _)
    | wellFormed =>
      rw [completeRead_wellFormed h hv]
      exact ⟨rfl, rfl, rfl, rfl, rfl, rfl, _, rfl, hv, rfl, rfl, rfl⟩
    | badcode f =>
      rw [completeRead_bad h hv]
      exact ⟨rfl, rfl, rfl, rfl, rfl, rfl, _, rfl, hv, rfl, rfl, rfl⟩

/-! ## The idle timer (R126) -/

variable {since : Ticks}

theorem idleTimerEvent_expires (hw : receiverWatches s.code = true) (hu : s.code.underWay = false)
    (hi : s.code.idleTimer = some since) :
    idleTimerEvent s = idleTimerExpires (advanceTo (since + readIdleTicks s.code.rate) s) := by
  simp [idleTimerEvent, hi, hw, hu]

theorem idleTimerExpires_waitIdle (h : s.code.readState = .waitIdle) :
    idleTimerExpires s = { s with code.idleTimer := none, code.readState := .ready } := by
  simp only [idleTimerExpires, h]

theorem idleTimerExpires_receiving (h : s.code.readState = .receiving) :
    idleTimerExpires s = completeRead { s with code.idleTimer := none } := by
  simp only [idleTimerExpires, h]

end

/-- Settles O38: WAIT_IDLE by the timer alone, a completed read by the line state, its validation and its assignee. -/
theorem idleTimerEndsRead : Obligations.IdleTimerEndsRead := by
  intro s since h hi hs hu _ due
  have hexpires {r : ReadState} (hr : s.code.readState = r) (ho : r ≠ .off) (hb : r ≠ .inBreak) :
      idleTimerEvent s = idleTimerExpires (advanceTo (since + readIdleTicks s.code.rate) s) :=
    idleTimerEvent_expires (receiverWatches_of (hr ▸ ho) (hr ▸ hb) hs) hu hi
  refine ⟨fun hr => ?waitIdle, fun hr => ?receiving⟩
  case waitIdle =>
    exact taken_of_event rfl h ((hexpires hr nofun nofun).trans (idleTimerExpires_waitIdle hr))
  case receiving =>
    let u : State := { s with now := due, code.idleTimer := none }
    obtain ⟨hframe, hstate, hfifo, hmarks, htimer, hreads, hlast⟩ := completeRead_always u
    refine ⟨completeRead u,
      taken_of_event rfl h ((hexpires hr nofun nofun).trans (idleTimerExpires_receiving hr)),
      hframe, hstate, hfifo, hmarks, htimer, hreads, hlast, fun hl => ?idle, fun hl hv => ?wellFormed,
      fun f hl hv => ⟨fun hc => ?orphan, fun r rest hc => ?oldest⟩⟩
    case idle =>
      rw [completeRead_idle (s := u) hl]
      exact ⟨rfl, rfl, rfl⟩
    case wellFormed =>
      have hcounts : (readCounted u).code.counters = { s.code.counters with reads := s.code.counters.reads + 1 } := by
        rw [readCounted, show validateRead u.code.marks u.code.fifo = .wellFormed from hv]
        rfl
      rw [completeRead_wellFormed (s := u) hl hv, assignTagged_eq]
      refine ⟨rfl, rfl, ?_⟩
      show (readCounted u).code.counters.assigned _ = _
      rw [hcounts]
      rfl
    case orphan =>
      rw [completeRead_bad (s := u) hl hv, oldestAssignee_nil (s := u) hc]
      exact ⟨rfl, rfl, rfl⟩
    case oldest =>
      rw [completeRead_bad (s := u) hl hv, oldestAssignee_cons (s := u) hc]
      exact ⟨rfl, rfl, rfl⟩

end Sys2Proof.Machine
end

section
/-! PROOFS. TABLE WRITES to SETTINGS: the code port's settings and its enable, the settings without a behaviour of their own,
and runs of entries (R123, R127, R137, R159, R174, R178, R186, R188, R193): O52. -/

namespace Sys2Proof.Machine

/-! ## The code port's settings (R123) -/

section
variable (e : BitVec 64)

theorem writesSetting_portRate : WritesSetting (.codePortConfigWrite 0 .rate e) 17 e :=
  writesSetting (fun _ => rfl) (by decide)

theorem writesSetting_portFormat : WritesSetting (.codePortConfigWrite 0 .format e) 18 e :=
  writesSetting (fun _ => rfl) (by decide)

theorem writesSetting_portEnable : WritesSetting (.codePortEnable 0 e) 19 e :=
  writesSetting (fun _ => rfl) (by decide)

/-- A TABLE WRITE of one entry to SETTINGS, by its index. -/
theorem writesSetting_settings {i : Byte} (hi : i.toNat ≤ 23) :
    WritesSetting (.settingsWrite 0 i 1 (leBytes 8 e.toNat)) i e :=
  writesSetting (fun _ => rfl) hi

/-- The test of a setting that is stored with the port OFF only: its value's before the port's (log 13). -/
def portOffOnly (s : State) (ok : Bool) : Option Status :=
  if ok then (if s.code.enable then some .inUse else none) else some .badValue

theorem settingRefusal_portRate (s : State) :
    settingRefusal s ((17 : Byte).toNat, leBytes 8 e.toNat) = portOffOnly s (isPortRate e.toInt) := by
  rw [← leInt_leBytes64]
  rfl

theorem settingRefusal_portFormat (s : State) :
    settingRefusal s ((18 : Byte).toNat, leBytes 8 e.toNat) = portOffOnly s (between 0 1 e.toInt) := by
  rw [← leInt_leBytes64]
  rfl

theorem storeSetting_portRate (s : State) :
    storeSetting ((17 : Byte).toNat, leBytes 8 e.toNat) s = { s with code.rate := e.toInt.toNat } := by
  rw [← leInt_leBytes64]
  rfl

theorem storeSetting_portFormat (s : State) :
    storeSetting ((18 : Byte).toNat, leBytes 8 e.toNat) s =
      { s with code.format := if e.toInt.toNat == 1 then .sevenE1 else .eightN1 } := by
  rw [← leInt_leBytes64]
  rfl

/-- The enable is tested against its range alone. -/
theorem rangeSetting_portEnable :
    RangeSetting (.codePortEnable 0 e) 19 e 0 1 (fun v => storeCodeEnable (v == 1)) :=
  ⟨writesSetting_portEnable e, fun _ _ => ⟨rfl, rfl⟩⟩

/-! ## Settings without a behaviour of their own (R159, R174, R178, R188, R193) -/

theorem settingRefusal_ackTimeout (s : State) :
    settingRefusal s ((20 : Byte).toNat, leBytes 8 e.toNat) =
      valueTest (between 10 2550 e.toInt && e.toInt % 10 == 0) := by
  rw [← leInt_leBytes64]
  rfl

theorem storeSetting_ackTimeout (s : State) :
    storeSetting ((20 : Byte).toNat, leBytes 8 e.toNat) s = { s with dose.ackTimeout := e.toInt.toNat } := by
  rw [← leInt_leBytes64]
  rfl

theorem rangeSetting_pulseTime : RangeSetting (.settingsWrite 0 21 1 (leBytes 8 e.toNat)) 21 e 5 255
    (fun v s => { s with verdict.pulseTime := v }) :=
  ⟨writesSetting_settings e (by decide), fun _ _ => ⟨rfl, rfl⟩⟩

theorem rangeSetting_lostRunLimit : RangeSetting (.settingsWrite 0 22 1 (leBytes 8 e.toNat)) 22 e 0 255
    (fun v s => { s with verdict.lostRunLimit := v }) :=
  ⟨writesSetting_settings e (by decide), fun _ _ => ⟨rfl, rfl⟩⟩

theorem rangeSetting_reportMode : RangeSetting (.settingsWrite 0 23 1 (leBytes 8 e.toNat)) 23 e 0 2
    (fun v s => { s with mgmt.reportMode := reportModeOf v }) :=
  ⟨writesSetting_settings e (by decide), fun _ _ => ⟨rfl, rfl⟩⟩

end

section
variable {e : BitVec 64} {s : State}

theorem portOffOnly_off (h : s.code.enable = false) : portOffOnly s true = none := by simp [portOffOnly, h]

theorem portOffOnly_on (h : s.code.enable = true) : portOffOnly s true = some .inUse := by simp [portOffOnly, h]

/-- An entry of 0 or 1 is in the range of a flag, and one of neither is not. -/
theorem between_flag (h : e = 0 ∨ e = 1) : between 0 1 e.toInt = true := by
  rcases h with rfl | rfl <;> decide

theorem flag_outside (h0 : e ≠ 0) (h1 : e ≠ 1) : e.toInt < 0 ∨ 1 < e.toInt := by
  have h0' : e.toInt ≠ 0 := fun hz => h0 (BitVec.eq_of_toInt_eq hz)
  have h1' : e.toInt ≠ 1 := fun hz => h1 (BitVec.eq_of_toInt_eq hz)
  omega

/-! ## The enable (R127) -/

theorem storeCodeEnable_same {on : Bool} (h : s.code.enable = on) : storeCodeEnable on s = s := by
  simp [storeCodeEnable, h]

theorem storeCodeEnable_opens (h : s.code.enable = false) : storeCodeEnable true s = enablePort s := by
  simp [storeCodeEnable, h]

theorem storeCodeEnable_closes (h : s.code.enable = true) : storeCodeEnable false s = disablePort s := by
  simp [storeCodeEnable, h]

/-- Closing the port abandons a read in progress, with its count, and empties the FIFO (R127). -/
theorem disablePort_eq (s : State) : disablePort s = { s with code := { s.code with
    enable := false, readState := .off, idleTimer := none, sending := none, underWay := false,
    lowSince := none, fifo := [], marks := {}, delivered := 0,
    counters.abandoned :=
      if s.code.readState = .receiving then s.code.counters.abandoned + 1 else s.code.counters.abandoned } } := by
  rw [disablePort, abandonRead_eq]
  rfl

/-! ## Runs of entries (R186) -/

variable {first count : Byte} {data : List Byte} {es : List Entry}

theorem refuseSettings_passes (h : ∀ x ∈ es, settingRefusal s x = none) : refuseSettings es s = none := by
  rw [refuseSettings, firstRefusal, List.findSome?_eq_none_iff]
  intro x hx
  rw [h x hx]
  rfl

/-- The first entry that fails gives the refusal its status and its index. -/
theorem refuseSettings_fails {pre post : List Entry} {x : Entry} {st : Status} (he : es = pre ++ x :: post)
    (hpre : ∀ y ∈ pre, settingRefusal s y = none) (hx : settingRefusal s x = some st) :
    refuseSettings es s = refuseAt st x.1 := by
  have hnone : firstRefusal (settingRefusal s) pre = none := refuseSettings_passes hpre
  rw [firstRefusal] at hnone
  rw [refuseSettings, firstRefusal, he, List.findSome?_append, hnone, List.findSome?_cons, hx]
  rfl

/-- A run of entries inside SETTINGS is stored whole, or refused whole. -/
theorem writeSettings_inside (hc : count ≠ 0) (hi : first.toNat + count.toNat ≤ 24)
    (hd : data.length = 8 * count.toNat) (s : State) :
    writeSettings first count data s =
      (refuseSettings (entriesOf 8 first.toNat count.toNat data) s).elim
        (wroteReply 2 first count (storeSettings (entriesOf 8 first.toNat count.toNat data) s))
        (fun r => refusedReply r.1 r.2 2 first count s) := by
  have hc0 : count.toNat ≠ 0 := fun h => hc (BitVec.eq_of_toNat_eq h)
  have hshape : tableShape 2 = some ⟨0, 23, 8, 8⟩ := rfl
  have hinside : (⟨0, 23, 8, 8⟩ : TableShape).outside first.toNat count.toNat = none := by
    have hlast : ¬23 < first.toNat := by omega
    have hrun : ¬23 < first.toNat + count.toNat - 1 := by omega
    simp [TableShape.outside, hlast, hrun]
  have hlength : ¬(count == 0 || decide (data.length ≠ count.toNat * 8)) = true := by
    rw [beq_eq_false_iff_ne.mpr hc, hd]
    simp [Nat.mul_comm]
  unfold writeSettings writeTable
  simp only [hshape, hinside, if_neg hlength]
  cases refuseSettings (entriesOf 8 first.toNat count.toNat data) s <;> rfl

end

/-- Settles O52, setting by setting. -/
theorem portAndPlainSettingsWritten : Obligations.PortAndPlainSettingsWritten := by
  intro s e h
  refine ⟨fun hr hoff => ?rate, fun hr hon => ?rateInUse, fun hr => ?rateBadValue, fun he hoff => ?format,
    fun he hon => ?formatInUse, fun h0 h1 => ⟨?formatBadValue, ?enableBadValue⟩, fun he => ?enableSame,
    fun he hoff => ?opens, fun he hon => ?closes, fun lo hi hm => ?ackTimeout, fun lo hi => ?pulseTime,
    fun lo hi => ?lostRunLimit, fun m hm => ?reportMode, fun i hi => ?readOnly,
    fun first count data hc hi hd => ⟨fun hpass => ?stored, fun pre x post st hes hpre hx => ?refused⟩⟩
  case rate =>
    refine taken_settingStored (writesSetting_portRate e) h ?_ (storeSetting_portRate e _)
    rw [settingRefusal_portRate, hr, portOffOnly_off (s := counted s) hoff]
  case rateInUse =>
    refine taken_settingRefused (writesSetting_portRate e) h ?_
    rw [settingRefusal_portRate, hr, portOffOnly_on (s := counted s) hon]
  case rateBadValue =>
    refine taken_settingRefused (writesSetting_portRate e) h ?_
    rw [settingRefusal_portRate, hr]
    rfl
  case format =>
    refine taken_settingStored (writesSetting_portFormat e) h ?_ ((storeSetting_portFormat e _).trans ?_)
    · rw [settingRefusal_portFormat, between_flag he, portOffOnly_off (s := counted s) hoff]
    · rcases he with rfl | rfl <;> rfl
  case formatInUse =>
    refine taken_settingRefused (writesSetting_portFormat e) h ?_
    rw [settingRefusal_portFormat, between_flag he, portOffOnly_on (s := counted s) hon]
  case formatBadValue =>
    refine taken_settingRefused (writesSetting_portFormat e) h ?_
    rw [settingRefusal_portFormat, between_outside (flag_outside h0 h1)]
    rfl
  case enableBadValue => exact taken_rangeRefused (rangeSetting_portEnable e) h (flag_outside h0 h1)
  case enableSame =>
    rcases he with ⟨rfl, hoff⟩ | ⟨rfl, hon⟩
    · exact taken_rangeStored (rangeSetting_portEnable 0) h (by decide) (by decide)
        (storeCodeEnable_same (s := counted s) hoff)
    · exact taken_rangeStored (rangeSetting_portEnable 1) h (by decide) (by decide)
        (storeCodeEnable_same (s := counted s) hon)
  case opens =>
    subst he
    exact taken_rangeStored (rangeSetting_portEnable 1) h (by decide) (by decide)
      (storeCodeEnable_opens (s := counted s) hoff)
  case closes =>
    subst he
    refine ⟨_, taken_rangeStored (rangeSetting_portEnable 0) h (by decide) (by decide)
      ((storeCodeEnable_closes (s := counted s) hon).trans (disablePort_eq _)), rfl, rfl⟩
  case ackTimeout =>
    refine taken_settingStored (writesSetting_settings e (by decide)) h ?_ (storeSetting_ackTimeout e _)
    rw [settingRefusal_ackTimeout, between_inside lo hi, hm]
    rfl
  case pulseTime => exact taken_rangeStored (rangeSetting_pulseTime e) h lo hi rfl
  case lostRunLimit => exact taken_rangeStored (rangeSetting_lostRunLimit e) h lo hi rfl
  case reportMode =>
    rcases hm with ⟨rfl, rfl⟩ | ⟨rfl, rfl⟩ | ⟨rfl, rfl⟩ <;>
      exact taken_rangeStored (rangeSetting_reportMode _) h (by decide) (by decide) rfl
  case readOnly =>
    rcases hi with rfl | rfl | rfl <;> exact taken_settingRefused (writesSetting_settings e (by decide)) h rfl
  case stored =>
    refine taken_of_request rfl h ((writeSettings_inside hc hi hd _).trans ?_)
    rw [refuseSettings_passes hpass]
    rfl
  case refused =>
    refine taken_of_request rfl h ((writeSettings_inside hc hi hd _).trans ?_)
    rw [refuseSettings_fails hes hpre hx]
    rfl

end Sys2Proof.Machine
end

section
/-! PROOFS. The exchanges that the Dose Regulator starts, and the evaluation of a statistics window (R157 to R162): O44. -/

namespace Sys2Proof.Machine

/-! ## Changes of one valve (R148) -/

/-- A valve changed by `modifyValve`, for a valve of the part. -/
theorem valve_modifyValve_self {s : State} {v : Nat} (f : Valve → Valve) (hv : ValveIn s v) :
    (modifyValve v f s).valve v = f (s.valve v) := by
  obtain ⟨hlen, hcount, h1, hle⟩ := hv
  rw [valve_modifyValve v v f s h1 h1 (by omega), if_pos rfl]

/-- A hand-off to valve v touches the Urgent Queue, the entry of the valve and the regulator's counters. -/
structure HandOffTouches (v : Nat) (s t : State) : Prop where
  frame : t = { s with
    ring.urgent := t.ring.urgent, dose.valves := t.dose.valves, dose.counters := t.dose.counters }
  length : t.dose.valves.length = s.dose.valves.length
  others : ∀ w, 1 ≤ w → w ≠ v → t.valve w = s.valve w

namespace HandOffTouches

variable {v : Nat} {s t u : State}

theorem trans (h : HandOffTouches v s t) (h' : HandOffTouches v t u) : HandOffTouches v s u where
  frame := by
    refine h'.frame.trans ?_
    rw [h.frame]
  length := h'.length.trans h.length
  others w hw hne := (h'.others w hw hne).trans (h.others w hw hne)

theorem count (v : Nat) (s : State) (c : DoseCounters) : HandOffTouches v s { s with dose.counters := c } :=
  ⟨rfl, rfl, fun _ _ _ => rfl⟩

theorem queue (v : Nat) (s : State) (q : List OwnFrame) : HandOffTouches v s { s with ring.urgent := q } :=
  ⟨rfl, rfl, fun _ _ _ => rfl⟩

theorem modifyValve (f : Valve → Valve) (s : State) (hv : 1 ≤ v) : HandOffTouches v s (modifyValve v f s) where
  frame := rfl
  length := List.length_set ..
  others w hw hne := by
    have hi : v - 1 ≠ w - 1 := by omega
    simp [State.valve, List.getD_eq_getElem?_getD, hi]

theorem valveIn (h : HandOffTouches v s t) {w : Nat} (hw : ValveIn s w) : ValveIn t w := by
  obtain ⟨hlen, hcount⟩ := hw
  have hc : t.dose.valveCount = s.dose.valveCount := by rw [h.frame]
  exact ⟨h.length.trans hlen, by rw [hc]; exact hcount⟩

end HandOffTouches

/-! ## Exchanges that start or find no room (R159 to R162) -/

/-- An exchange of valve v started: its frame appended, and the valve changed (R159). -/
def exchangeStarted (f : OwnFrame) (g : Valve → Valve) (v : Nat) (s : State) : State :=
  modifyValve v g { s with ring.urgent := s.ring.urgent ++ [f] }

/-- A valve whose trim exchange starts (R160). -/
def Valve.awaitsAck (expiry : Ticks) (trim : Int) (x : Valve) : Valve :=
  { x.startExchange .dose expiry with state := .awaitAck, pendingTrim := some trim }

/-- A valve whose lockout starts (R161). -/
def Valve.locks (expiry : Ticks) (x : Valve) : Valve :=
  { x.startExchange .off expiry with state := .locking, window := [] }

/-- A valve whose release starts (R162). -/
def Valve.releases (expiry : Ticks) (x : Valve) : Valve :=
  { x.startExchange .on expiry with state := .releasing }

section
variable {s : State} {v : Nat}

theorem valve_exchangeStarted (f : OwnFrame) (g : Valve → Valve) (hv : ValveIn s v) :
    (exchangeStarted f g v s).valve v = g (s.valve v) :=
  valve_modifyValve_self (s := { s with ring.urgent := s.ring.urgent ++ [f] }) g hv

theorem HandOffTouches.exchangeStarted (f : OwnFrame) (g : Valve → Valve) (s : State) (hv : 1 ≤ v) :
    HandOffTouches v s (exchangeStarted f g v s) := (queue v s _).trans (.modifyValve g _ hv)

/-- An exchange started now expires after the ack timeout (R159). -/
theorem exchangeExpiry_eq (s : State) : exchangeExpiry s = s.now + 8000 * s.dose.ackTimeout :=
  congrArg (s.now + ·) (Nat.mul_comm ..)

/-- There is no room for an own frame: the Urgent Queue is full, or the part is a repeater only (R19, R28, log 8). -/
def NoUrgentRoom (s : State) : Prop := repeaterOnly s = true ∨ 8 ≤ s.ring.urgent.length

theorem not_noUrgentRoom (h : ¬NoUrgentRoom s) : repeaterOnly s = false ∧ s.ring.urgent.length < 8 := by
  simpa [NoUrgentRoom, not_or] using h

theorem appendUrgent_refused {f : OwnFrame} (h : NoUrgentRoom s) : appendUrgent f s = (false, s) := by
  rcases appendUrgent_cases f s with ⟨e, -⟩ | ⟨-, hr, hl⟩
  · exact e
  · rcases h with h | h
    · simp [hr] at h
    · omega

theorem startTrimExchange_room {x : Int} (hr : repeaterOnly s = false) (hl : s.ring.urgent.length < 8) :
    startTrimExchange v x s = exchangeStarted (trimFrame s v x) (Valve.awaitsAck (exchangeExpiry s) x) v s := by
  rw [startTrimExchange, appendUrgent_room hr hl]
  rfl

theorem startTrimExchange_refused {x : Int} (h : NoUrgentRoom s) :
    startTrimExchange v x s = { s with dose.counters.notStarted := s.dose.counters.notStarted + 1 } := by
  rw [startTrimExchange, appendUrgent_refused h]

theorem startLockout_room (hr : repeaterOnly s = false) (hl : s.ring.urgent.length < 8) :
    startLockout v s = exchangeStarted (valveFrame s .off v) (Valve.locks (exchangeExpiry s)) v s := by
  rw [startLockout, appendUrgent_room hr hl]
  rfl

theorem startLockout_refused (h : NoUrgentRoom s) :
    startLockout v s = { s with dose.counters.deferred := s.dose.counters.deferred + 1 } := by
  rw [startLockout, appendUrgent_refused h]

end

/-! ## The evaluation of a window (R157, R158) -/

/-- The error of a valve's window: its mean, rounded toward zero, less the target (R157). -/
def windowError (p : Product) (x : Valve) : Int := x.window.sum.tdiv (p.window.toNat : Int) - p.target.toInt

/-- The new trim that a valve's window calls for (R157, steps 4 and 5). -/
def trimOfWindow (p : Product) (x : Valve) : Int := newTrim p x.trim (windowError p x)

/-- The evaluation is counted and the window emptied, before its error is judged (R157). -/
def evaluationBegun (v : Nat) (s : State) : State :=
  modifyValve v (fun x => { x with window := [] })
    { s with dose.counters.evaluations := s.dose.counters.evaluations + 1 }

theorem evaluateWindow_eq (p : Product) (v : Nat) (s : State) : evaluateWindow p v s =
    let u := evaluationBegun v s
    let t := newTrim p (u.valve v).trim (windowError p (s.valve v))
    if (windowError p (s.valve v)).natAbs ≤ p.deadband.toNat then
      { u with dose.counters.deadband := u.dose.counters.deadband + 1 }
    else if t = (u.valve v).trim then { u with dose.counters.noChange := u.dose.counters.noChange + 1 }
    else startTrimExchange v t u := by
  simp only [windowError, List.sum_eq_foldl, ← beq_iff_eq (α := Int)]
  rfl

section
variable {s : State} {p : Product} {v : Nat}

theorem valve_evaluationBegun (hv : ValveIn s v) :
    (evaluationBegun v s).valve v = { s.valve v with window := [] } :=
  valve_modifyValve_self (s := { s with dose.counters.evaluations := s.dose.counters.evaluations + 1 }) _ hv

theorem HandOffTouches.evaluationBegun (s : State) (hv : 1 ≤ v) : HandOffTouches v s (evaluationBegun v s) :=
  (HandOffTouches.count v s _).trans (.modifyValve _ _ hv)

theorem valveIn_evaluationBegun (hv : ValveIn s v) : ValveIn (evaluationBegun v s) v := by
  have ⟨_, _, h1, _⟩ := hv
  exact (HandOffTouches.evaluationBegun s h1).valveIn hv

theorem evaluateWindow_inDeadband (h : (windowError p (s.valve v)).natAbs ≤ p.deadband.toNat) :
    evaluateWindow p v s = { evaluationBegun v s with
      dose.counters.deadband := (evaluationBegun v s).dose.counters.deadband + 1 } := by
  rw [evaluateWindow_eq]
  exact if_pos h

variable (hv : ValveIn s v) (h : p.deadband.toNat < (windowError p (s.valve v)).natAbs)
include hv h

theorem evaluateWindow_noChange (ht : trimOfWindow p (s.valve v) = (s.valve v).trim) :
    evaluateWindow p v s = { evaluationBegun v s with
      dose.counters.noChange := (evaluationBegun v s).dose.counters.noChange + 1 } := by
  rw [evaluateWindow_eq]
  dsimp only
  rw [if_neg (Nat.not_le.mpr h), valve_evaluationBegun hv]
  exact if_pos ht

theorem evaluateWindow_differs (ht : trimOfWindow p (s.valve v) ≠ (s.valve v).trim) :
    evaluateWindow p v s = startTrimExchange v (trimOfWindow p (s.valve v)) (evaluationBegun v s) := by
  rw [evaluateWindow_eq]
  dsimp only
  rw [if_neg (Nat.not_le.mpr h), valve_evaluationBegun hv]
  exact if_neg ht

theorem evaluateWindow_notStarted (ht : trimOfWindow p (s.valve v) ≠ (s.valve v).trim) (hn : NoUrgentRoom s) :
    evaluateWindow p v s = { evaluationBegun v s with
      dose.counters.notStarted := (evaluationBegun v s).dose.counters.notStarted + 1 } :=
  (evaluateWindow_differs hv h ht).trans (startTrimExchange_refused (s := evaluationBegun v s) hn)

theorem evaluateWindow_starts (ht : trimOfWindow p (s.valve v) ≠ (s.valve v).trim) (hr : repeaterOnly s = false)
    (hl : s.ring.urgent.length < 8) :
    evaluateWindow p v s = exchangeStarted (trimFrame (evaluationBegun v s) v (trimOfWindow p (s.valve v)))
      (Valve.awaitsAck (exchangeExpiry s) (trimOfWindow p (s.valve v))) v (evaluationBegun v s) :=
  (evaluateWindow_differs hv h ht).trans (startTrimExchange_room (s := evaluationBegun v s) hr hl)

end

section
variable {s : State} {v : Nat}

/-- An evaluation only counts its outcome, or starts a trim exchange. -/
theorem evaluateWindow_cases (p : Product) (hv : ValveIn s v) :
    (∃ c : DoseCounters, evaluateWindow p v s = { evaluationBegun v s with dose.counters := c }
      ∧ c.evaluations = s.dose.counters.evaluations + 1 ∧ c.deferred = s.dose.counters.deferred)
    ∨ (s.ring.urgent.length < 8 ∧ ∃ f trim, evaluateWindow p v s =
        exchangeStarted f (Valve.awaitsAck (exchangeExpiry s) trim) v (evaluationBegun v s)) := by
  rcases Nat.lt_or_ge p.deadband.toNat (windowError p (s.valve v)).natAbs with h | h
  · by_cases ht : trimOfWindow p (s.valve v) = (s.valve v).trim
    · exact .inl ⟨_, evaluateWindow_noChange hv h ht, rfl, rfl⟩
    · by_cases hn : NoUrgentRoom s
      · exact .inl ⟨_, evaluateWindow_notStarted hv h ht hn, rfl, rfl⟩
      · obtain ⟨hr, hl⟩ := not_noUrgentRoom hn
        exact .inr ⟨hl, _, _, evaluateWindow_starts hv h ht hr hl⟩
  · exact .inl ⟨_, evaluateWindow_inDeadband h, rfl, rfl⟩

theorem HandOffTouches.startTrimExchange (x : Int) (s : State) (h1 : 1 ≤ v) :
    HandOffTouches v s (startTrimExchange v x s) := by
  by_cases hn : NoUrgentRoom s
  · rw [startTrimExchange_refused hn]
    exact .count v s _
  · obtain ⟨hr, hl⟩ := not_noUrgentRoom hn
    rw [startTrimExchange_room hr hl]
    exact .exchangeStarted _ _ s h1

theorem HandOffTouches.evaluateWindow (p : Product) (s : State) (h1 : 1 ≤ v) :
    HandOffTouches v s (evaluateWindow p v s) := by
  have hbegun := HandOffTouches.evaluationBegun s h1
  rw [evaluateWindow_eq]
  dsimp only
  split
  · exact hbegun.trans (.count v _ _)
  · split
    · exact hbegun.trans (.count v _ _)
    · exact hbegun.trans (.startTrimExchange _ _ h1)

/-- What an evaluation leaves of the valve, the counters and the Urgent Queue in every case. -/
theorem evaluateWindow_always (p : Product) (hv : ValveIn s v) :
    let t := evaluateWindow p v s
    t.dose.counters.evaluations = s.dose.counters.evaluations + 1
      ∧ t.dose.counters.deferred = s.dose.counters.deferred
      ∧ (t.valve v).window = [] ∧ (t.valve v).trim = (s.valve v).trim
      ∧ (t.valve v).limitCount = (s.valve v).limitCount
      ∧ (t.valve v).counters.handOffs = (s.valve v).counters.handOffs
      ∧ (8 ≤ s.ring.urgent.length → t.ring = s.ring) := by
  have hbegun := valve_evaluationBegun hv
  rcases evaluateWindow_cases p hv with ⟨c, e, he, hd⟩ | ⟨hl, f, trim, e⟩
  · have hvalve : (evaluateWindow p v s).valve v = { s.valve v with window := [] } := by
      rw [e]
      exact hbegun
    dsimp only
    rw [hvalve, e]
    exact ⟨he, hd, rfl, rfl, rfl, rfl, fun _ => rfl⟩
  · have hvalve := valve_exchangeStarted f (Valve.awaitsAck (exchangeExpiry s) trim) (valveIn_evaluationBegun hv)
    rw [hbegun] at hvalve
    dsimp only
    rw [e, hvalve]
    exact ⟨rfl, rfl, rfl, rfl, rfl, rfl, fun hfull => absurd hl (Nat.not_lt.mpr hfull)⟩

end

/-- Settles O44, by the outcome of the evaluation. -/
theorem evaluationTrimsValve : Obligations.EvaluationTrimsValve := by
  intro s p v hr hv
  have hbegun := valve_evaluationBegun hv
  have ⟨_, _, h1, _⟩ := hv
  obtain ⟨hframe, -, hothers⟩ := HandOffTouches.evaluateWindow p s h1
  obtain ⟨hevaluations, -, hwindow, htrim, -⟩ := evaluateWindow_always p hv
  refine ⟨hevaluations, hwindow, htrim, hothers, hframe, fun hd => ?deadband, fun hd ht => ?noChange,
    fun hd ht hl => ?notStarted, fun hd ht hl => ?starts⟩
  case deadband =>
    rw [evaluateWindow_inDeadband hd]
    exact ⟨rfl, hbegun⟩
  case noChange =>
    rw [evaluateWindow_noChange hv hd ht]
    exact ⟨rfl, hbegun⟩
  case notStarted =>
    rw [evaluateWindow_notStarted hv hd ht (.inr hl)]
    exact ⟨rfl, hbegun, rfl⟩
  case starts =>
    rw [evaluateWindow_starts hv hd ht hr hl, valve_exchangeStarted _ _ (valveIn_evaluationBegun hv), hbegun, exchangeExpiry_eq]
    refine ⟨?_, rfl⟩
    show s.ring.urgent ++ [trimFrame (evaluationBegun v s) v _] = _
    rw [trimFrame, hbegun]
    rfl

end Sys2Proof.Machine
end

section
/-! PROOFS. The acks of the filler, VALVE RELEASE and VALVE CLEAR (R153, R159, R162 to R164, R166, R167): O40 and O43. -/

namespace Sys2Proof.Machine

section
variable {s : State} {v : Nat}

theorem valveInCount_of_valveIn (hv : ValveIn s v) : s.valveInCount v = true := by
  obtain ⟨-, -, h1, hle⟩ := hv
  exact valveInCount_iff.mpr ⟨h1, hle⟩

/-! ## A change of a valve with its dose change (R153) -/

/-- A valve changed and counted, with the dose change that follows: what it leaves of the valve, the records and the
counters, and that it touches nothing else. -/
theorem doseChange_modifyValve_spec (f : Valve → Valve) (c : DoseCounters) (hv : ValveIn s v) :
    let t := doseChange v { modifyValve v f s with dose.counters := c }
    t.valve v = { f (s.valve v) with
        generation := (f (s.valve v)).generation + 1, window := [], lag := s.activeLag }
      ∧ t.track.queue = s.track.queue.map (fun r => if r.valve = v then { r with stale := true } else r)
      ∧ t.dose.counters = { c with doseChanges := c.doseChanges + 1 } ∧ t.ring = s.ring ∧ OnlyValve v s t := by
  have hself := valve_modifyValve_self f hv
  obtain ⟨hlen, hcount, h1, hle⟩ := hv
  have hl : v ≤ s.dose.valves.length := by omega
  have hl' : v ≤ ({ modifyValve v f s with dose.counters := c } : State).dose.valves.length := by simpa using hl
  refine ⟨?self, ?queue, rfl, rfl, rfl, fun w hw hne => ?others⟩
  case self =>
    rw [valve_doseChange h1 h1 hl', if_pos rfl]
    exact congrArg (fun x : Valve => { x with generation := x.generation + 1, window := [], lag := s.activeLag }) hself
  case queue =>
    rw [doseChange_frame]
    simp
  case others =>
    rw [valve_doseChange h1 hw hl', if_neg hne]
    exact (valve_modifyValve v w f s h1 hw hl).trans (if_neg hne)

/-! ## VALVE RELEASE (R162) -/

theorem releaseValve_outside (h : s.valveInCount v = false) : releaseValve v s = ((.badIndex, 0), s) := by
  simp [releaseValve, h]

theorem clearValve_outside (h : s.valveInCount v = false) : clearValve v s = (.badIndex, s) := by
  simp [clearValve, h]

section
variable (hv : s.valveInCount v = true)
include hv

theorem releaseValve_badValue (hs : (s.valve v).state ≠ .lockedOut) : releaseValve v s = ((.badValue, 0), s) := by
  simp [releaseValve, hv, hs]

theorem releaseValve_notReady (hs : (s.valve v).state = .lockedOut) (hf : s.mgmt.filler = 0) :
    releaseValve v s = ((.notReady, 3), s) := by
  simp [releaseValve, hv, hs, hf, detailStations]

theorem releaseValve_busy (hs : (s.valve v).state = .lockedOut) (hf : s.mgmt.filler ≠ 0) (hn : NoUrgentRoom s) :
    releaseValve v s = ((.busy, 0), s) := by
  rw [releaseValve, if_neg (by simp [hv]), if_neg (by simp [hs]), if_neg (by simpa using hf), appendUrgent_refused hn]

theorem releaseValve_taken (hs : (s.valve v).state = .lockedOut) (hf : s.mgmt.filler ≠ 0)
    (hr : repeaterOnly s = false) (hl : s.ring.urgent.length < 8) : releaseValve v s =
      ((.ok, 0), exchangeStarted (valveFrame s .on v) (Valve.releases (exchangeExpiry s)) v s) := by
  rw [releaseValve, if_neg (by simp [hv]), if_neg (by simp [hs]), if_neg (by simpa using hf), appendUrgent_room hr hl]
  rfl

/-! ## VALVE CLEAR (R167) -/

theorem clearValve_badValue (hs : (s.valve v).state ≠ .fault) : clearValve v s = (.badValue, s) := by
  simp [clearValve, hv, hs]

theorem clearValve_taken (hs : (s.valve v).state = .fault) :
    clearValve v s = (.ok, doseChange v (modifyValve v (fun x => { x with state := .regulating }) s)) := by
  simp [clearValve, hv, hs]

end

end

/-- Settles O43: each request by its tests in their order. -/
theorem releaseAndClearValves : Obligations.ReleaseAndClearValves := by
  intro s valve h v
  have hrelease {st : Status} {d : Byte} {u : State} (e : releaseValve v (counted s) = ((st, d), u)) :
      Taken (.valveRelease 0 valve) s (actionAnswer 8 st d u) :=
    taken_of_request (perform := actValveRelease valve) rfl h (by rw [actValveRelease, e]; rfl)
  have hclear {st : Status} {u : State} (e : clearValve v (counted s) = (st, u)) :
      Taken (.valveClear 0 valve) s (actionAnswer 9 st 0 u) :=
    taken_of_request (perform := actValveClear valve) rfl h (by rw [actValveClear, e]; rfl)
  refine ⟨fun hout => ⟨hrelease (releaseValve_outside hout), hclear (clearValve_outside hout)⟩, fun hv => ?_⟩
  have hin : (counted s).valveInCount v = true := valveInCount_of_valveIn (s := counted s) hv
  refine ⟨fun hs => hrelease (releaseValve_badValue hin hs), fun hs hf => hrelease (releaseValve_notReady hin hs hf),
    fun hs hf hl => hrelease (releaseValve_busy hin hs hf (.inr hl)), fun hs hf hl => ?released,
    fun hs => hclear (clearValve_badValue hin hs), fun hs => ?cleared⟩
  case released =>
    obtain ⟨-, -, hothers⟩ := HandOffTouches.exchangeStarted (valveFrame s .on v)
      (Valve.releases (exchangeExpiry s)) (counted s) hv.2.2.1
    refine ⟨_, hrelease (releaseValve_taken hin hs hf h.2 hl), ?queue, ?self, rfl, hothers⟩
    case queue =>
      show _ ++ [fillerFrame s .on [_, BitVec.ofNat 8 valve.toNat]] = _
      rw [BitVec.ofNat_toNat, BitVec.setWidth_eq]
      rfl
    case self =>
      refine (valve_exchangeStarted (s := counted s) _ _ hv).trans ?_
      rw [exchangeExpiry_eq]
      rfl
  case cleared =>
    obtain ⟨hself, hqueue, hcounters, hring, honly⟩ := doseChange_modifyValve_spec (s := counted s)
      (fun x => { x with state := .regulating }) s.dose.counters hv
    exact ⟨_, hclear (clearValve_taken hin hs), hself, hqueue, hcounters, hring, honly⟩

/-! ## The acks of the filler (R163, R164, R166) -/

section
variable {s : State} {op tag valve status : Byte}

/-- An ack is taken on a part that hears it when its classing gives the state claimed. -/
theorem taken_fillAck {t : State} (h : Listening s) (e : takeAck op tag valve status s = t) :
    Taken (.fillAck op tag valve status) s t :=
  taken_of_event (f := fun s => if repeaterOnly s then s else takeAck op tag valve status s) rfl h.1
    ((if_neg (by simp [h.2])).trans e)

theorem takeAck_unknownOp (ho : ackOp op = none) : takeAck op tag valve status s =
    { s with dose.counters.unknownAcks := s.dose.counters.unknownAcks + 1 } := by
  simp only [takeAck, ho]

theorem takeAck_outside (hv : s.valveInCount valve.toNat = false) : takeAck op tag valve status s =
    { s with dose.counters.unknownAcks := s.dose.counters.unknownAcks + 1 } := by
  cases ho : ackOp op with
  | none => exact takeAck_unknownOp ho
  | some o => simp only [takeAck, ho, hv, Bool.not_false, if_true]

section
variable {o : ExchangeOp} (hv : s.valveInCount valve.toNat = true) (ho : ackOp op = some o)
include hv ho

theorem takeAck_eq : takeAck op tag valve status s =
    if awaits (s.valve valve.toNat).state o = true then
      if (s.valve valve.toNat).exchange.map Prod.snd = some tag then
        if status = 0 then ackAccepted o valve.toNat s else ackRefused valve.toNat s
      else { s with dose.counters.staleAcks := s.dose.counters.staleAcks + 1 }
    else if o = .dose ∧ (s.valve valve.toNat).abandonedTag = some tag then
      { s with dose.counters.staleAcks := s.dose.counters.staleAcks + 1 }
    else { s with dose.counters.lateAcks := s.dose.counters.lateAcks + 1 } := by
  simp only [takeAck, ho, hv, Bool.not_true, Bool.false_eq_true, if_false, beq_iff_eq, Bool.and_eq_true]

theorem takeAck_accepted (ha : awaits (s.valve valve.toNat).state o = true)
    (hx : (s.valve valve.toNat).exchange.map Prod.snd = some tag) (hs : status = 0) :
    takeAck op tag valve status s = ackAccepted o valve.toNat s := by
  rw [takeAck_eq hv ho, if_pos ha, if_pos hx, if_pos hs]

theorem takeAck_refused (ha : awaits (s.valve valve.toNat).state o = true)
    (hx : (s.valve valve.toNat).exchange.map Prod.snd = some tag) (hs : status ≠ 0) :
    takeAck op tag valve status s = ackRefused valve.toNat s := by
  rw [takeAck_eq hv ho, if_pos ha, if_pos hx, if_neg hs]

end

end

/-- Settles O40: an ack by its class, a taken one by its operation and status. -/
theorem fillAckActsByClass : Obligations.FillAckActsByClass := by
  intro s op tag valve status h
  refine ⟨fun hout => taken_fillAck h (takeAck_outside hout), fun ho => taken_fillAck h (takeAck_unknownOp ho),
    fun hv => ?_⟩
  have hin := valveInCount_of_valveIn hv
  have ⟨hlen, hcount, h1, hle⟩ := hv
  have hl : valve.toNat ≤ s.dose.valves.length := by omega
  intro x
  refine ⟨fun o ho ha hx => ?staleTag, fun hop hs ht => ?abandoned, fun o ho ha hn => ?late,
    fun t hop hs hstate hx hp => ?dose, fun hop hs hstate hx => ?off, fun hop hs hstate hx => ?on,
    fun o ho hs ha hx => ?refused⟩
  case staleTag => exact taken_fillAck h ((takeAck_eq hin ho).trans ((if_pos ha).trans (if_neg hx)))
  case abandoned =>
    subst hop
    have ha : ¬awaits x.state .dose = true := by simpa [awaits] using hs
    exact taken_fillAck h ((takeAck_eq hin rfl).trans ((if_neg ha).trans (if_pos ⟨rfl, ht⟩)))
  case late =>
    exact taken_fillAck h ((takeAck_eq hin ho).trans ((if_neg (Bool.eq_false_iff.mp ha)).trans (if_neg hn)))
  case dose =>
    subst hop
    have ha : awaits x.state .dose = true := by rw [hstate]; rfl
    obtain ⟨hself, hqueue, hcounters, -, honly⟩ := doseChange_modifyValve_spec (s := s)
      (fun x => { x.endExchange with
        state := .regulating, trim := x.pendingTrim.getD x.trim, pendingTrim := none }) s.dose.counters hv
    refine ⟨_, taken_fillAck h (takeAck_accepted hin rfl ha hx hs), hself.trans ?_, hqueue, hcounters, honly⟩
    rw [hp]
    rfl
  case off =>
    subst hop
    have ha : awaits x.state .off = true := by rw [hstate]; rfl
    obtain ⟨hself, honly⟩ := raise_modifyValve_spec
      (s := { s with dose.counters.lockouts := s.dose.counters.lockouts + 1 }) .valveLocked
      (fun x => { x.endExchange with state := .lockedOut }) h1 hl
    refine ⟨_, taken_fillAck h (takeAck_accepted hin rfl ha hx hs), hself, ?counters, raise_latch _ _, ?track, honly⟩
    case counters => simp only [ackAccepted, raise_dose]; rfl
    case track => simp only [ackAccepted, raise_track]; rfl
  case on =>
    subst hop
    have ha : awaits x.state .on = true := by rw [hstate]; rfl
    obtain ⟨hself, hqueue, hcounters, -, honly⟩ := doseChange_modifyValve_spec (s := s)
      (fun x => { x.endExchange with state := .regulating, limitCount := 0 })
      { s.dose.counters with releases := s.dose.counters.releases + 1 } hv
    exact ⟨_, taken_fillAck h (takeAck_accepted hin rfl ha hx hs), hself, hqueue, hcounters, honly⟩
  case refused =>
    obtain ⟨hself, honly⟩ := raise_modifyValve_spec (s := s) .valveFault
      (fun x => { x.endExchange with
        state := .fault, pendingTrim := none, counters.refusals := x.counters.refusals + 1 }) h1 hl
    refine ⟨_, taken_fillAck h (takeAck_refused hin ho ha hx hs), hself, ?counters, raise_latch _ _, ?track, honly⟩
    case counters => simp only [ackRefused, raise_dose]; rfl
    case track => simp only [ackRefused, raise_track]; rfl

end Sys2Proof.Machine
end

section
/-! PROOFS. The gate decision and the hand-off of a record to the Dose Regulator (R155, R156, R161, R171 to R174): O45. -/

namespace Sys2Proof.Machine

/-! ## A weight that a hand-off enters (R155, R156) -/

/-- A valve with a weight entered into its window (R155, step 4). -/
def Valve.takesWeight (net : Int) (x : Valve) : Valve :=
  { x with window := x.window ++ [net], counters.entered := x.counters.entered + 1 }

section
variable {s : State} {p : Product} {r : CanRecord} {net : Int}

/-- Only a valve in REGULATING takes a weight (R156). -/
theorem enteredWeight_eq_none (h : (s.valve r.valve).state ≠ .regulating) : enteredWeight s r = none := by
  unfold enteredWeight
  split
  · simp [h]
  · rfl

theorem enterWeight_none (h : enteredWeight s r = none) : enterWeight p r s = s := by
  simp only [enterWeight, h]

theorem enterWeight_some (h : enteredWeight s r = some net) :
    enterWeight p r s =
      let u := modifyValve r.valve (Valve.takesWeight net) s
      if p.window.toNat ≤ (u.valve r.valve).window.length then evaluateWindow p r.valve u else u := by
  simp only [enterWeight, h]
  rfl

theorem valveIn_modifyValve {v : Nat} (f : Valve → Valve) (hv : ValveIn s v) : ValveIn (modifyValve v f s) v := by
  have ⟨_, _, h1, _⟩ := hv
  exact (HandOffTouches.modifyValve f s h1).valveIn hv

theorem HandOffTouches.enterWeight (p : Product) (s : State) (h1 : 1 ≤ r.valve) :
    HandOffTouches r.valve s (enterWeight p r s) := by
  unfold Machine.enterWeight
  split
  · exact .count r.valve s s.dose.counters
  · rename_i net _
    have hw := HandOffTouches.modifyValve (Valve.takesWeight net) s h1
    dsimp only
    split
    · exact hw.trans (.evaluateWindow p _ h1)
    · exact hw

/-- What the entry of a weight leaves in every case. -/
theorem enterWeight_always (p : Product) (hv : ValveIn s r.valve) :
    let t := enterWeight p r s
    (t.valve r.valve).limitCount = (s.valve r.valve).limitCount
      ∧ (t.valve r.valve).counters.handOffs = (s.valve r.valve).counters.handOffs
      ∧ t.dose.counters.deferred = s.dose.counters.deferred
      ∧ (8 ≤ s.ring.urgent.length → t.ring = s.ring) := by
  dsimp only
  cases he : enteredWeight s r with
  | none =>
    rw [enterWeight_none he]
    exact ⟨rfl, rfl, rfl, fun _ => rfl⟩
  | some net =>
    have hvalve := valve_modifyValve_self (Valve.takesWeight net) hv
    rw [enterWeight_some he]
    dsimp only
    split
    · obtain ⟨-, hdeferred, -, -, hlimit, hhandOffs, hring⟩ :=
        evaluateWindow_always p (valveIn_modifyValve (Valve.takesWeight net) hv)
      rw [hlimit, hhandOffs, hdeferred, hvalve]
      exact ⟨rfl, rfl, rfl, hring⟩
    · rw [hvalve]
      exact ⟨rfl, rfl, rfl, fun _ => rfl⟩

end

/-! ## The hand-off (R155, R161) -/

/-- A valve with a record handed over (R155, steps 1 and 2). -/
def Valve.handedOver (r : CanRecord) (x : Valve) : Valve :=
  { x with counters.handOffs := x.counters.handOffs + 1, limitCount := limitAfter r x }

theorem lockoutDue_iff {p : Product} {x : Valve} : lockoutDue p x = true ↔
    0 < p.lockout.toNat ∧ p.lockout.toNat ≤ x.limitCount ∧ (x.state = .regulating ∨ x.state = .hold) := by
  simp [lockoutDue, and_assoc]

/-- A lockout that is due at a hand-off and does not start is counted as deferred (R161). -/
def deferCounted (p : Product) (r : CanRecord) (s : State) : State :=
  { s with
    dose.counters.deferred :=
      if lockoutDue p ((s.valve r.valve).handedOver r) = true then s.dose.counters.deferred + 1
      else s.dose.counters.deferred }

/-- The state before a weight is entered, where no lockout started (R155, R161). -/
def handOffCounted (p : Product) (r : CanRecord) (s : State) : State :=
  setValve r.valve ((s.valve r.valve).handedOver r) (deferCounted p r s)

section
variable {s : State} {p : Product} {r : CanRecord}

theorem deferCounted_eq {due : Prop} [Decidable due]
    (h : lockoutDue p ((s.valve r.valve).handedOver r) = true ↔ due) : deferCounted p r s = { s with
      dose.counters.deferred := if due then s.dose.counters.deferred + 1 else s.dose.counters.deferred } := by
  simp only [deferCounted, h]

@[simp] theorem activeProduct_modifyValve (v : Nat) (f : Valve → Valve) (s : State) :
    (modifyValve v f s).activeProduct = s.activeProduct := rfl

theorem gateHandOff_noProduct (h1 : 1 ≤ r.valve) (ha : s.activeProduct = none) :
    gateHandOff r s = modifyValve r.valve (Valve.handedOver r) s := by
  rw [gateHandOff, if_neg (by simp; omega)]
  simp only [activeProduct_modifyValve, ha]
  rfl

theorem gateHandOff_product (h1 : 1 ≤ r.valve) (ha : s.activeProduct = some p) :
    gateHandOff r s =
      let u := modifyValve r.valve (Valve.handedOver r) s
      enterWeight p r (if lockoutDue p (u.valve r.valve) = true then startLockout r.valve u else u) := by
  rw [gateHandOff, if_neg (by simp; omega)]
  simp only [activeProduct_modifyValve, ha]
  rfl

theorem HandOffTouches.startLockout {v : Nat} (s : State) (h1 : 1 ≤ v) :
    HandOffTouches v s (startLockout v s) := by
  by_cases hn : NoUrgentRoom s
  · rw [startLockout_refused hn]
    exact .count v s _
  · obtain ⟨hr, hl⟩ := not_noUrgentRoom hn
    rw [startLockout_room hr hl]
    exact .exchangeStarted _ _ s h1

theorem HandOffTouches.gateHandOff (r : CanRecord) (s : State) (h1 : 1 ≤ r.valve) :
    HandOffTouches r.valve s (gateHandOff r s) := by
  have hcounted := HandOffTouches.modifyValve (Valve.handedOver r) s h1
  cases ha : s.activeProduct with
  | none =>
    rw [gateHandOff_noProduct h1 ha]
    exact hcounted
  | some p =>
    rw [gateHandOff_product h1 ha]
    dsimp only
    split
    · exact (hcounted.trans (.startLockout _ h1)).trans (.enterWeight p _ h1)
    · exact hcounted.trans (.enterWeight p _ h1)

section
variable (hv : ValveIn s r.valve) (ha : s.activeProduct = some p)
include hv ha

/-- A lockout that starts leaves the valve in LOCKING, which takes no weight (R155, R156, R161). -/
theorem gateHandOff_locks (hd : lockoutDue p ((s.valve r.valve).handedOver r) = true)
    (hr : repeaterOnly s = false) (hl : s.ring.urgent.length < 8) :
    gateHandOff r s =
      let u := modifyValve r.valve (Valve.handedOver r) s
      exchangeStarted (valveFrame u .off r.valve) (Valve.locks (exchangeExpiry s)) r.valve u := by
  have ⟨_, _, h1, _⟩ := hv
  have hself := valve_modifyValve_self (Valve.handedOver r) hv
  rw [gateHandOff_product h1 ha]
  dsimp only
  rw [hself, if_pos hd, startLockout_room (s := modifyValve r.valve (Valve.handedOver r) s) hr hl]
  refine enterWeight_none (enteredWeight_eq_none ?_)
  rw [valve_exchangeStarted _ _ (valveIn_modifyValve _ hv)]
  exact nofun

/-- Where no lockout starts, the weight is entered after the counts (R155, R161). -/
theorem gateHandOff_enters (hn : lockoutDue p ((s.valve r.valve).handedOver r) = true → NoUrgentRoom s) :
    gateHandOff r s = enterWeight p r (handOffCounted p r s) := by
  have ⟨_, _, h1, _⟩ := hv
  rw [gateHandOff_product h1 ha]
  dsimp only
  rw [valve_modifyValve_self _ hv, handOffCounted, deferCounted]
  split
  · rw [startLockout_refused (s := modifyValve r.valve (Valve.handedOver r) s) (hn ‹_›)]
    rfl
  · rfl

end

theorem valveIn_handOffCounted (p : Product) (hv : ValveIn s r.valve) : ValveIn (handOffCounted p r s) r.valve :=
  valveIn_modifyValve (s := deferCounted p r s) (Valve.handedOver r) hv

theorem valve_handOffCounted (p : Product) (hv : ValveIn s r.valve) :
    (handOffCounted p r s).valve r.valve = (s.valve r.valve).handedOver r :=
  valve_modifyValve_self (s := deferCounted p r s) (Valve.handedOver r) hv

theorem setValve_setValve (v : Nat) (x y : Valve) (s : State) :
    setValve v y (setValve v x s) = setValve v y s := by
  simp [setValve]

/-- The counts of a hand-off leave what a weight's entry depends on (R156). -/
theorem enteredWeight_handOffCounted (hv : ValveIn s r.valve) :
    enteredWeight (handOffCounted p r s) r = enteredWeight s r := by
  unfold enteredWeight
  rw [valve_handOffCounted p hv]
  rfl

/-- A hand-off counts itself and sets the limit count, whatever else it does (R155, steps 1 and 2). -/
theorem valve_gateHandOff (hv : ValveIn s r.valve) :
    ((gateHandOff r s).valve r.valve).counters.handOffs = (s.valve r.valve).counters.handOffs + 1
      ∧ ((gateHandOff r s).valve r.valve).limitCount = limitAfter r (s.valve r.valve) := by
  have ⟨_, _, h1, _⟩ := hv
  have hself := valve_modifyValve_self (Valve.handedOver r) hv
  cases ha : s.activeProduct with
  | none =>
    rw [gateHandOff_noProduct h1 ha, hself]
    exact ⟨rfl, rfl⟩
  | some p =>
    by_cases hn : lockoutDue p ((s.valve r.valve).handedOver r) = true → NoUrgentRoom s
    · obtain ⟨hlimit, hhandOffs, -⟩ := enterWeight_always (r := r) p (valveIn_handOffCounted p hv)
      rw [gateHandOff_enters hv ha hn, hhandOffs, hlimit, valve_handOffCounted p hv]
      exact ⟨rfl, rfl⟩
    · obtain ⟨hd, hroom⟩ := Classical.not_imp.mp hn
      obtain ⟨hr, hl⟩ := not_noUrgentRoom hroom
      rw [gateHandOff_locks hv ha hd hr hl]
      dsimp only
      rw [valve_exchangeStarted _ _ (valveIn_modifyValve _ hv), hself]
      exact ⟨rfl, rfl⟩

/-- What a hand-off leaves where it starts a lockout (R161). -/
theorem gateHandOff_locks_spec (hv : ValveIn s r.valve) (ha : s.activeProduct = some p)
    (hd : lockoutDue p ((s.valve r.valve).handedOver r) = true) (hr : repeaterOnly s = false)
    (hl : s.ring.urgent.length < 8) :
    (gateHandOff r s).valve r.valve = ((s.valve r.valve).handedOver r).locks (exchangeExpiry s)
      ∧ (gateHandOff r s).ring.urgent = s.ring.urgent ++
          [⟨.doseRegulator, s.mgmt.filler, 0x12, [(s.valve r.valve).generation + 1, BitVec.ofNat 8 r.valve]⟩] := by
  have hself := valve_modifyValve_self (Valve.handedOver r) hv
  rw [gateHandOff_locks hv ha hd hr hl]
  dsimp only
  rw [valve_exchangeStarted _ _ (valveIn_modifyValve _ hv), valveFrame, hself]
  exact ⟨rfl, rfl⟩

section
variable (hv : ValveIn s r.valve) (ha : s.activeProduct = some p)
  (hn : lockoutDue p ((s.valve r.valve).handedOver r) = true → NoUrgentRoom s)
include hv ha hn

theorem gateHandOff_noWeight (he : enteredWeight s r = none) : gateHandOff r s = handOffCounted p r s := by
  rw [gateHandOff_enters hv ha hn, enterWeight_none]
  rw [← he, enteredWeight_handOffCounted hv]

theorem gateHandOff_weight {net : Int} (he : enteredWeight s r = some net) :
    gateHandOff r s =
      let u := setValve r.valve (((s.valve r.valve).handedOver r).takesWeight net) (deferCounted p r s)
      if p.window.toNat ≤ (s.valve r.valve).window.length + 1 then evaluateWindow p r.valve u else u := by
  have hin := valveIn_handOffCounted p hv
  have hlen : ((modifyValve r.valve (Valve.takesWeight net) (handOffCounted p r s)).valve r.valve).window.length
      = (s.valve r.valve).window.length + 1 := by
    rw [valve_modifyValve_self _ hin, valve_handOffCounted p hv]
    simp [Valve.takesWeight, Valve.handedOver]
  have hset : modifyValve r.valve (Valve.takesWeight net) (handOffCounted p r s)
      = setValve r.valve (((s.valve r.valve).handedOver r).takesWeight net) (deferCounted p r s) := by
    rw [modifyValve, valve_handOffCounted p hv, handOffCounted, setValve_setValve]
  rw [gateHandOff_enters hv ha hn, enterWeight_some ((enteredWeight_handOffCounted hv).trans he)]
  dsimp only
  rw [hlen, hset]

/-- A full Urgent Queue stays as it is, and a lockout that is due is counted as deferred (R161). -/
theorem gateHandOff_full (hl : 8 ≤ s.ring.urgent.length) :
    (gateHandOff r s).ring = s.ring ∧ (gateHandOff r s).dose.counters.deferred =
      (deferCounted p r s).dose.counters.deferred := by
  obtain ⟨-, -, hdeferred, hring⟩ := enterWeight_always (r := r) p (valveIn_handOffCounted p hv)
  rw [gateHandOff_enters hv ha hn]
  exact ⟨hring hl, hdeferred⟩

end

end

/-! ## The units that the Dose Regulator does not read -/

/-- The Tracking Unit and the Verdict Unit replaced. -/
def withVerdict (k : TrackingUnit) (w : VerdictUnit) (s : State) : State := { s with track := k, verdict := w }

section
variable (k : TrackingUnit) (w : VerdictUnit) {s : State} {v : Nat} {p : Product} {r : CanRecord}

theorem startTrimExchange_withVerdict (x : Int) :
    startTrimExchange v x (withVerdict k w s) = withVerdict k w (startTrimExchange v x s) := by
  by_cases hn : NoUrgentRoom s
  · rw [startTrimExchange_refused hn, startTrimExchange_refused (s := withVerdict k w s) hn]
    rfl
  · obtain ⟨hr, hl⟩ := not_noUrgentRoom hn
    rw [startTrimExchange_room hr hl, startTrimExchange_room (s := withVerdict k w s) hr hl]
    rfl

theorem startLockout_withVerdict : startLockout v (withVerdict k w s) = withVerdict k w (startLockout v s) := by
  by_cases hn : NoUrgentRoom s
  · rw [startLockout_refused hn, startLockout_refused (s := withVerdict k w s) hn]
    rfl
  · obtain ⟨hr, hl⟩ := not_noUrgentRoom hn
    rw [startLockout_room hr hl, startLockout_room (s := withVerdict k w s) hr hl]
    rfl

theorem valve_withVerdict : (withVerdict k w s).valve v = s.valve v := rfl

theorem modifyValve_withVerdict (f : Valve → Valve) :
    modifyValve v f (withVerdict k w s) = withVerdict k w (modifyValve v f s) := rfl

theorem evaluateWindow_withVerdict :
    evaluateWindow p v (withVerdict k w s) = withVerdict k w (evaluateWindow p v s) := by
  have hbegun : evaluationBegun v (withVerdict k w s) = withVerdict k w (evaluationBegun v s) := rfl
  rw [evaluateWindow_eq, evaluateWindow_eq]
  simp only [hbegun, valve_withVerdict, startTrimExchange_withVerdict]
  split_ifs <;> rfl

theorem enterWeight_withVerdict : enterWeight p r (withVerdict k w s) = withVerdict k w (enterWeight p r s) := by
  cases he : enteredWeight s r with
  | none => rw [enterWeight_none he, enterWeight_none (s := withVerdict k w s) he]
  | some net =>
    rw [enterWeight_some he, enterWeight_some (s := withVerdict k w s) he]
    simp only [modifyValve_withVerdict, valve_withVerdict, evaluateWindow_withVerdict]
    split_ifs <;> rfl

theorem gateHandOff_withVerdict (h1 : 1 ≤ r.valve) :
    gateHandOff r (withVerdict k w s) = withVerdict k w (gateHandOff r s) := by
  cases ha : s.activeProduct with
  | none => rw [gateHandOff_noProduct h1 ha, gateHandOff_noProduct (s := withVerdict k w s) h1 ha]; rfl
  | some p =>
    rw [gateHandOff_product h1 ha, gateHandOff_product (s := withVerdict k w s) h1 ha]
    simp only [modifyValve_withVerdict, valve_withVerdict, startLockout_withVerdict]
    rw [← enterWeight_withVerdict]
    split_ifs <;> rfl

end

/-! ## The verdict (R171 to R174) -/

/-- The verdict of a record as it stands (R171, R172). -/
def verdictOf (s : State) (r : CanRecord) : Verdict := decideVerdict (rejectMask s r) (collectReasons s r)

/-- A record with the verdict and the reasons found in `r`. -/
def CanRecord.judgedAs (s : State) (r x : CanRecord) : CanRecord :=
  { x with verdict := verdictOf s r, reasons := collectReasons s r }

/-- The gate decision of record `r` before it is counted and handed over: the verdict written, and the pulse started for
a REJECT (R173, R174). -/
def verdictWritten (n : Serial) (r : CanRecord) (s : State) : State :=
  let u := writeRecord n (CanRecord.judgedAs s r) s
  if verdictOf s r = .reject then startPulse u else u

section
variable {s : State} {n : Serial} {r : CanRecord}

theorem gateDecision_eq (hr : findRecord n s.track.queue = some r) : gateDecision n s =
    let q := verdictWritten n r s
    let t := if s.valveInCount r.valve = true then gateHandOff (r.judgedAs s r) q else q
    { t with verdict.counters := countDecision (verdictOf s r) (collectReasons s r) t.verdict.counters } := by
  have hcount (v : Nat) : (verdictWritten n r s).valveInCount v = s.valveInCount v := by
    unfold verdictWritten startPulse
    dsimp only
    split_ifs <;> rfl
  simp only [← hcount]
  simp only [gateDecision, hr, beq_iff_eq]
  rfl

/-- A pulse that starts, or starts anew, runs for the pulse time (R174). -/
theorem startPulse_eq (s : State) : ∃ c, startPulse s = { s with
      verdict.pulse := some (s.now + 8000 * s.verdict.pulseTime), verdict.counters := c }
    ∧ c.gateDecisions = s.verdict.counters.gateDecisions ∧ c.rejects = s.verdict.counters.rejects
    ∧ c.accepts = s.verdict.counters.accepts := by
  rw [Nat.mul_comm 8000]
  unfold startPulse
  dsimp only
  split <;> exact ⟨_, rfl, rfl, rfl, rfl⟩

/-- What the verdict leaves of the record and of the Verdict Unit before it is counted (R173, R174). -/
theorem verdictWritten_eq (n : Serial) (r : CanRecord) (s : State) : ∃ c,
    verdictWritten n r s = withVerdict
        { s.track with queue := updateRecord n (CanRecord.judgedAs s r) s.track.queue }
        { s.verdict with
          pulse := if verdictOf s r = .reject then some (s.now + 8000 * s.verdict.pulseTime) else s.verdict.pulse
          counters := c } s
      ∧ c.gateDecisions = s.verdict.counters.gateDecisions ∧ c.rejects = s.verdict.counters.rejects
      ∧ c.accepts = s.verdict.counters.accepts := by
  unfold verdictWritten
  dsimp only
  split
  · obtain ⟨c, hp, hc⟩ := startPulse_eq (writeRecord n (CanRecord.judgedAs s r) s)
    exact ⟨c, hp, hc⟩
  · exact ⟨_, rfl, rfl, rfl, rfl⟩

theorem countDecision_counts (v : Verdict) (rs : List Reason) (c : VerdictCounters) :
    (countDecision v rs c).gateDecisions = c.gateDecisions + 1
      ∧ (countDecision v rs c).rejects = (if v = .reject then c.rejects + 1 else c.rejects)
      ∧ (countDecision v rs c).accepts = (if v = .reject then c.accepts else c.accepts + 1) := by
  cases v <;> exact ⟨rfl, rfl, rfl⟩

/-- The limit count after the hand-off of a judged record (R155, step 2). -/
theorem limitAfter_judgedAs (s : State) (r : CanRecord) (x : Valve) :
    limitAfter (r.judgedAs s r) x =
      if x.state = .disabled then x.limitCount
      else if .under ∈ collectReasons s r ∨ .over ∈ collectReasons s r then min 255 (x.limitCount + 1)
      else if verdictOf s r = .accept ∧ weightGood r = true then 0
      else x.limitCount := by
  have hgood : weightGood (r.judgedAs s r) = weightGood r := rfl
  simp only [limitAfter, hgood]
  simp [CanRecord.judgedAs]

end

/-! ## The gate decision (R173) -/

section
variable {s : State} {n : Serial} {r : CanRecord}

/-- The Dose Regulator's share of the gate decision of record `r` (R155, R173). -/
def handedOff (r : CanRecord) (s : State) : State :=
  if s.valveInCount r.valve = true then gateHandOff (r.judgedAs s r) s else s

/-- A gate decision by its units: the record's write, the Verdict Unit's counts and pulse, and the hand-off. -/
theorem gateDecision_units (hr : findRecord n s.track.queue = some r) : ∃ c,
    gateDecision n s = withVerdict
      { s.track with queue := updateRecord n (CanRecord.judgedAs s r) s.track.queue }
      { s.verdict with
        pulse := if verdictOf s r = .reject then some (s.now + 8000 * s.verdict.pulseTime) else s.verdict.pulse
        counters := c }
      (handedOff r s)
    ∧ c.gateDecisions = s.verdict.counters.gateDecisions + 1
    ∧ c.rejects = (if verdictOf s r = .reject then s.verdict.counters.rejects + 1 else s.verdict.counters.rejects)
    ∧ c.accepts = (if verdictOf s r = .reject then s.verdict.counters.accepts else s.verdict.counters.accepts + 1) := by
  obtain ⟨c, hq, hdecisions, hrejects, haccepts⟩ := verdictWritten_eq n r s
  obtain ⟨hdecided, hrejected, haccepted⟩ := countDecision_counts (verdictOf s r) (collectReasons s r) c
  rw [hdecisions] at hdecided
  rw [hrejects] at hrejected
  rw [haccepts] at haccepted
  refine ⟨_, (gateDecision_eq hr).trans ?_, hdecided, hrejected, haccepted⟩
  rw [hq]
  dsimp only
  unfold handedOff
  split
  · rename_i hin
    obtain ⟨h1, -⟩ := valveInCount_iff.mp hin
    rw [gateHandOff_withVerdict (r := r.judgedAs s r) _ _ h1]
    rfl
  · rfl

theorem HandOffTouches.handedOff (r : CanRecord) (s : State) : HandOffTouches r.valve s (handedOff r s) := by
  unfold Machine.handedOff
  split
  · rename_i hin
    exact .gateHandOff (r.judgedAs s r) s (valveInCount_iff.mp hin).1
  · exact .count r.valve s s.dose.counters

theorem enteredWeight_weightless (hw : r.weight = none) : enteredWeight s r = none := by simp only [enteredWeight, hw]

/-- What R156 asks of a judged record for its weight to be entered. -/
theorem enteredWeight_judgedAs (s : State) (r : CanRecord) (w : WeightResult) (hw : r.weight = some w) :
    enteredWeight s (r.judgedAs s r) =
      if r.eligible = true ∧ r.stale = false ∧ w.quality = .good ∧ w.test = false ∧ r.code ≠ some .tagMismatch
        ∧ r.product ≠ none ∧ r.product = s.dose.active ∧ (s.valve r.valve).state = .regulating
      then some w.net else none := by
  simp [enteredWeight, CanRecord.judgedAs, hw, Option.isSome_iff_ne_none, and_assoc]

end

/-- Settles O45: the verdict by its reasons, the hand-off by the active product and the lockout that is due. -/
theorem gateDecisionJudges : Obligations.GateDecisionJudges := by
  intro s n r hr rs rejected t
  have hverdict : verdictOf s r = if rejected = true then .reject else .accept := rfl
  have hreject : verdictOf s r = .reject ↔ rejected = true := by cases h : rejected <;> simp [hverdict, h]
  have haccept : verdictOf s r = .accept ↔ rejected = false := by cases h : rejected <;> simp [hverdict, h]
  obtain ⟨c, ht, hdecisions, hrejects, haccepts⟩ := gateDecision_units hr
  obtain ⟨hframe, -, hothers⟩ := HandOffTouches.handedOff r s
  have htd : t = _ := ht
  clear_value t
  subst htd
  refine ⟨rfl, hdecisions, ?rejects, ?accepts, fun hrej => if_pos (hreject.mpr hrej), fun hacc => ?quiet,
    congrArg (withVerdict _ _) hframe, fun hout => ?outside, fun hv => ?handedOver⟩
  case rejects => exact hrejects.trans (if_congr hreject rfl rfl)
  case accepts => exact haccepts.trans (if_congr hreject rfl rfl)
  case quiet => exact if_neg (by rw [hreject, hacc]; exact Bool.false_ne_true)
  case outside =>
    have hd : handedOff r s = s := if_neg (by rw [hout]; exact Bool.false_ne_true)
    rw [hd]
    exact ⟨rfl, rfl⟩
  case handedOver =>
    intro x limit
    have hd : handedOff r s = gateHandOff (r.judgedAs s r) s := if_pos (valveInCount_of_valveIn hv)
    have hlimit : limitAfter (r.judgedAs s r) x = limit := by
      rw [limitAfter_judgedAs]
      simp only [haccept]
      rfl
    have hy : x.handedOver (r.judgedAs s r) =
        { x with limitCount := limit, counters.handOffs := x.counters.handOffs + 1 } := by
      rw [Valve.handedOver, hlimit]
    have hdue (p : Product) : lockoutDue p (x.handedOver (r.judgedAs s r)) = true ↔
        0 < p.lockout.toNat ∧ p.lockout.toNat ≤ limit ∧ (x.state = .regulating ∨ x.state = .hold) := by
      rw [lockoutDue_iff, ← hlimit]
      rfl
    obtain ⟨hcount, hlimited⟩ := valve_gateHandOff (r := r.judgedAs s r) hv
    rw [hd] at hothers ⊢
    refine ⟨hcount, hlimited.trans hlimit, hothers, fun p ha h0 hle hstate hrep => ⟨fun hl => ?lockout, fun hl => ?full⟩,
      fun ha => ?noProduct, fun p ha => ?product⟩
    case lockout =>
      obtain ⟨hvalve, hurgent⟩ :=
        gateHandOff_locks_spec (r := r.judgedAs s r) hv ha ((hdue p).mpr ⟨h0, hle, hstate⟩) hrep hl
      rw [exchangeExpiry_eq] at hvalve
      have h : (gateHandOff (r.judgedAs s r) s).valve r.valve = _ := hvalve
      simp only [valve_withVerdict, h]
      exact ⟨rfl, rfl, rfl, rfl, rfl, hurgent⟩
    case full =>
      obtain ⟨hring, hdeferred⟩ := gateHandOff_full (r := r.judgedAs s r) hv ha (fun _ => .inr hl) hl
      exact ⟨congrArg (·.urgent) hring, hdeferred.trans (if_pos ((hdue p).mpr ⟨h0, hle, hstate⟩))⟩
    case noProduct =>
      have ⟨_, _, h1, _⟩ := hv
      rw [gateHandOff_noProduct (r := r.judgedAs s r) h1 ha]
      exact ⟨rfl, (valve_modifyValve_self _ hv).trans hy, rfl⟩
    case product =>
      intro due u entered hnot
      have hn : lockoutDue p (x.handedOver (r.judgedAs s r)) = true → NoUrgentRoom s := fun hd =>
        not_not.mp fun hroom => hnot ⟨(hdue p).mp hd, not_noUrgentRoom hroom⟩
      have hu : deferCounted p (r.judgedAs s r) s = u := deferCounted_eq (hdue p)
      have hentered : enteredWeight s (r.judgedAs s r) = entered := by
        unfold entered
        cases hw : r.weight with
        | none => exact enteredWeight_weightless hw
        | some w => exact enteredWeight_judgedAs s r w hw
      refine ⟨fun he => ?noWeight, fun net he => ?weight⟩
      case noWeight =>
        rw [gateHandOff_noWeight (r := r.judgedAs s r) hv ha hn (hentered.trans he), handOffCounted, hu]
        exact ⟨rfl, (valve_modifyValve_self (s := u) _ hv).trans hy, rfl⟩
      case weight =>
        intro z
        have hz : (x.handedOver (r.judgedAs s r)).takesWeight net = z := congrArg (Valve.takesWeight net) hy
        have hto : gateHandOff (r.judgedAs s r) s = if p.window.toNat ≤ x.window.length + 1
            then evaluateWindow p r.valve (setValve r.valve z u) else setValve r.valve z u := by
          rw [gateHandOff_weight (r := r.judgedAs s r) hv ha hn (hentered.trans he), hu, ← hz]
          rfl
        refine ⟨fun hshort => ?short, fun hfull => ?evaluated⟩
        case short =>
          rw [hto, if_neg (Nat.not_le.mpr hshort)]
          exact ⟨rfl, valve_modifyValve_self (s := u) (fun _ => z) hv, rfl⟩
        case evaluated =>
          rw [hto, if_pos hfull]
          exact ⟨rfl, rfl⟩

end Sys2Proof.Machine
end

section
/-! PROOFS. An exchange and its timer at every step (R149, R150, R159): O58. -/

namespace Sys2Proof.Machine

/-! ## One valve -/

/-- R159 on one valve: it has an exchange and a running timer exactly in AWAIT_ACK, LOCKING and RELEASING. -/
def Valve.Timed (x : Valve) : Prop :=
  x.timer.isSome = x.state.inExchange ∧ x.exchange.isSome = x.state.inExchange

namespace Valve.Timed

variable {x : Valve}

/-- A valve without an exchange stays so in another such state. -/
theorem withState (h : x.Timed) (hx : x.state.inExchange = false) {st : ValveState} (hs : st.inExchange = false) :
    ({ x with state := st } : Valve).Timed := by
  obtain ⟨htimer, hexchange⟩ := h
  exact ⟨htimer.trans (hx.trans hs.symm), hexchange.trans (hx.trans hs.symm)⟩

theorem abandon (h : x.Timed) : x.abandon.Timed := by
  unfold Valve.abandon
  split
  · exact ⟨rfl, rfl⟩
  · exact h

theorem onLineReset {lag : Nat} (h : x.Timed) : (x.onLineReset lag).Timed := by
  unfold Valve.onLineReset
  split
  · exact ⟨rfl, rfl⟩
  · exact h

theorem setMode {st : ValveState} (h : x.Timed) (hx : x.state.inExchange = false) (hs : st.inExchange = false) :
    (x.setMode st).Timed := by
  have hst := h.withState hx hs
  unfold Valve.setMode
  split
  · exact h
  · split <;> exact hst

/-- A valve that a new count leaves above it has no exchange (R150). -/
theorem onCount {old new lag v : Nat} (h : x.Timed) (hleaves : new < v → x.state.inExchange = false)
    (hjoins : old < v → x.state.inExchange = false) : (x.onCount old new lag v).Timed := by
  unfold Valve.onCount
  split
  · exact h.withState (hleaves ‹_›) rfl
  · split
    · exact h.withState (hjoins ‹_›) rfl
    · exact h

end Valve.Timed

/-- A mode names a state without an exchange (R168). -/
theorem not_inExchange_of_modeState {b : Byte} {st : ValveState} (h : modeState b = some st) :
    st.inExchange = false := by
  unfold modeState at h
  split at h <;> cases h <;> rfl

theorem startLockout_inCount (v w : Nat) (s : State) : (startLockout v s).valveInCount w = s.valveInCount w := by
  unfold startLockout
  rcases appendUrgent_cases (valveFrame s .off v) s with ⟨e, -⟩ | ⟨e, -⟩ <;> rw [e] <;> rfl

theorem exchangeTimeoutEvent_none {s : State} {v : Nat} (h : (s.valve v).timer = none) :
    exchangeTimeoutEvent v s = s := by simp only [exchangeTimeoutEvent, h]

/-! ## Tables whose writes reach the valves (R150, R168, R186) -/

/-- A run of entries passes where each of them does. -/
theorem firstRefusal_eq_none_iff {test : Entry → Option Status} {es : List Entry} :
    firstRefusal test es = none ↔ ∀ e ∈ es, test e = none := by
  simp [firstRefusal]

/-- The entries of a run are in index order. -/
theorem pairwise_entriesOf (size first count : Nat) (data : List Byte) :
    (entriesOf size first count data).Pairwise (·.1 < ·.1) := by
  rw [entriesOf, List.pairwise_map]
  exact List.pairwise_lt_range.imp fun h => Nat.add_lt_add_left h _

/-- The first two settings are read-only (Table 9-5), so no write of them passes. -/
theorem two_le_of_settingPasses {s : State} {e : Entry} (h : settingRefusal s e = none) : 2 ≤ e.1 := by
  obtain ⟨i, b⟩ := e
  match i with
  | 0 | 1 => cases h
  | _ + 2 => exact Nat.le_add_left ..

section
variable {s : State} {n v : Nat}

theorem countSetting_passes {b : List Byte} (h : settingRefusal s (2, b) = none) :
    valveCountRefusal s (leInt b).toNat = none ∧ (leInt b).toNat ≤ 48 := by
  have htest : idleOnly s
      (if between 8 48 (leInt b) then valveCountRefusal s (leInt b).toNat else some .badValue) = none := h
  cases hl : s.track.line with
  | run => simp [idleOnly_run hl] at htest
  | idle =>
    rw [idleOnly_idle hl] at htest
    split at htest
    · rename_i hin
      simp only [between, Bool.and_eq_true, decide_eq_true_eq] at hin
      exact ⟨htest, by omega⟩
    · cases htest

theorem not_inExchange_of_countPasses (hc : s.dose.valveCount ≤ 48) (h : valveCountRefusal s n = none) (hlt : n < v)
    (hle : v ≤ s.dose.valveCount) : (s.valve v).state.inExchange = false := by
  refine Bool.eq_false_iff.mpr fun hx => ?_
  rw [valveCountRefusal_busy hc hlt hle hx] at h
  cases h

/-- A valve whose mode may be stored: it is in the count and has no exchange (R168). -/
def State.TakesMode (s : State) (v : Nat) : Prop := s.valveInCount v = true ∧ (s.valve v).state.inExchange = false

theorem takesMode_of_passes {b : Byte} (h : modeRefusal s v b = none) : s.TakesMode v := by
  unfold modeRefusal at h
  split_ifs at h with hv _ hx
  exact ⟨by simpa using hv, by simpa using hx⟩

/-- A mode stored for one valve leaves every valve that takes one so. -/
theorem State.TakesMode.storeMode {w : Nat} {b : Byte} (h : s.TakesMode w) (hl : v ≤ s.dose.valves.length)
    (hv : s.TakesMode v) : (Machine.storeMode v b s).TakesMode w := by
  obtain ⟨hw, hx⟩ := h
  obtain ⟨hcount, -⟩ := hv
  obtain ⟨h1, -⟩ := valveInCount_iff.mp hcount
  obtain ⟨hw1, -⟩ := valveInCount_iff.mp hw
  unfold Machine.storeMode
  split
  · rename_i st hst
    refine ⟨hw, ?_⟩
    rw [valve_modifyValve v w _ s h1 hw1 hl]
    split
    · rw [setMode_state]
      exact not_inExchange_of_modeState hst
    · exact hx
  · exact ⟨hw, hx⟩

end

/-! ## The whole part

For each operation `f` of the model, `ExchangesTimed.f` says that `f` keeps the invariant. An update of fields outside the
valve entries and their count keeps it by unfolding, so `h` itself closes its case. -/

namespace ExchangesTimed

variable {s t u : State}

theorem length_valves (h : ExchangesTimed t) : t.dose.valves.length = 48 := h.1

theorem valveCount_le (h : ExchangesTimed t) : t.dose.valveCount ≤ 48 := h.2.1

theorem valve (h : ExchangesTimed t) {v : Nat} (h1 : 1 ≤ v) (h48 : v ≤ 48) : (t.valve v).Timed := by
  obtain ⟨-, -, hv⟩ := h
  obtain ⟨htimer, hexchange, -⟩ := hv v h1 h48
  exact ⟨htimer, hexchange⟩

theorem above (h : ExchangesTimed t) {v : Nat} (h48 : v ≤ 48) (hv : t.dose.valveCount < v) :
    (t.valve v).state = .disabled := by
  obtain ⟨-, -, hall⟩ := h
  obtain ⟨-, -, habove⟩ := hall v (by omega) h48
  exact habove hv

/-- A valve in the count is one of the table's. -/
theorem inCount (h : ExchangesTimed t) {v : Nat} (hv : t.valveInCount v = true) :
    1 ≤ v ∧ v ≤ 48 ∧ v ≤ t.dose.valveCount := by
  obtain ⟨h1, hle⟩ := valveInCount_iff.mp hv
  exact ⟨h1, hle.trans h.valveCount_le, hle⟩

/-- A valve with an exchange is in the count. -/
theorem inCount_of_inExchange (h : ExchangesTimed t) {v : Nat} (h1 : 1 ≤ v) (h48 : v ≤ 48)
    (hx : (t.valve v).state.inExchange = true) : t.valveInCount v = true := by
  refine valveInCount_iff.mpr ⟨h1, Nat.le_of_not_lt fun hlt => ?_⟩
  rw [h.above h48 hlt] at hx
  cases hx

/-! ### Changes of the Dose Regulator -/

/-- The Dose Regulator left as it is. -/
theorem leave (h : ExchangesTimed t) (e : u.dose = t.dose) : ExchangesTimed u := by
  unfold ExchangesTimed State.valve at h ⊢
  rwa [e]

/-- Every valve entry rewritten, the count kept or not. -/
theorem rewritten (h : ExchangesTimed t) (hlen : u.dose.valves.length = t.dose.valves.length)
    (hcount : u.dose.valveCount ≤ 48)
    (hv : ∀ v, 1 ≤ v → v ≤ 48 → (u.valve v).Timed ∧ (u.dose.valveCount < v → (u.valve v).state = .disabled)) :
    ExchangesTimed u := by
  refine ⟨hlen.trans h.length_valves, hcount, fun v h1 h48 => ?_⟩
  obtain ⟨⟨htimer, hexchange⟩, habove⟩ := hv v h1 h48
  exact ⟨htimer, hexchange, habove⟩

theorem valve_inCount (h : ExchangesTimed t) {v : Nat} (hv : t.valveInCount v = true) : (t.valve v).Timed := by
  obtain ⟨h1, h48, -⟩ := h.inCount hv
  exact h.valve h1 h48

/-- The entry of a valve in the count replaced. -/
theorem changed (h : ExchangesTimed t) {v : Nat} {x : Valve} (hv : t.valveInCount v = true)
    (hu : u.dose.valves = t.dose.valves.set (v - 1) x) (hcount : u.dose.valveCount = t.dose.valveCount)
    (hx : x.Timed) : ExchangesTimed u := by
  obtain ⟨h1, h48, hle⟩ := h.inCount hv
  have hvalve (w : Nat) : u.valve w = (setValve v x t).valve w := by rw [State.valve, hu]; rfl
  have hlen : v ≤ t.dose.valves.length := by rw [h.length_valves]; exact h48
  refine h.rewritten (by rw [hu, List.length_set]) (hcount ▸ h.valveCount_le) fun w hw1 hw48 => ?_
  rw [hvalve, hcount, ← show Machine.modifyValve v (fun _ => x) t = setValve v x t from rfl,
    valve_modifyValve v w _ t h1 hw1 hlen]
  split
  · subst w
    exact ⟨hx, fun hlt => absurd hle (Nat.not_le.mpr hlt)⟩
  · exact ⟨h.valve hw1 hw48, h.above hw48⟩

/-- The same change of every valve. -/
theorem mapped (h : ExchangesTimed t) {f : Valve → Valve} (hu : u.dose.valves = t.dose.valves.map f)
    (hcount : u.dose.valveCount = t.dose.valveCount)
    (hf : ∀ x, x.Timed → (f x).Timed) (hd : ∀ x, x.state = .disabled → (f x).state = .disabled) :
    ExchangesTimed u := by
  refine h.rewritten (by simp [hu]) (hcount ▸ h.valveCount_le) fun v h1 h48 => ?_
  rw [valve_of_map hu h1 (by rw [h.length_valves]; exact h48)]
  exact ⟨hf _ (h.valve h1 h48), fun hlt => hd _ (h.above h48 (hcount ▸ hlt))⟩

/-- A choice between two states. -/
theorem ite {c : Prop} [Decidable c] (h : ExchangesTimed t) (h' : ExchangesTimed u) :
    ExchangesTimed (if c then t else u) := by
  split
  · exact h
  · exact h'

/-- What is kept at each element of a list is kept along the list. -/
theorem foldl {α : Type} {f : State → α → State} {l : List α} (h : ExchangesTimed t)
    (hf : ∀ a ∈ l, ∀ {t}, ExchangesTimed t → ExchangesTimed (f t a)) : ExchangesTimed (l.foldl f t) := by
  induction l generalizing t with
  | nil => exact h
  | cons a l ih =>
    obtain ⟨ha, hl⟩ := List.forall_mem_cons.mp hf
    exact ih (ha h) hl

/-! ### Queues and latches -/

theorem appendUrgent {f : OwnFrame} {b : Bool} (h : ExchangesTimed t) (e : appendUrgent f t = (b, u)) :
    ExchangesTimed u := by
  rcases appendUrgent_cases f t with ⟨hu, -⟩ | ⟨hu, -⟩ <;> rw [hu] at e <;> cases e <;> exact h

theorem queueNotice (h : ExchangesTimed t) : ExchangesTimed (queueNotice t).2 := by
  unfold Machine.queueNotice
  rcases appendRoutine_cases .notice t with ⟨hu, -⟩ | ⟨hu, -⟩ <;> rw [hu] <;> exact h

theorem raise {l : EventLatch} (h : ExchangesTimed t) : ExchangesTimed (raise l t) := h.leave (raise_dose l t)

theorem appendReply {d k : Byte} {a : Answer} (h : ExchangesTimed t) : ExchangesTimed (appendReply d k a t) :=
  h.leave (appendReply_dose d k a t)

theorem postCause {c : Cause} (h : ExchangesTimed t) : ExchangesTimed (postCause c t) :=
  h.leave (by rw [postCause_frame]; rfl)

theorem canReport {b : Bool} {r : CanRecord} (h : ExchangesTimed t) : ExchangesTimed (canReport b r t) :=
  h.leave (by rw [canReport_frame])

theorem ringFault {f : RingFault} (h : ExchangesTimed t) : ExchangesTimed (ringFault f t) := .raise h

theorem sendOn {f : List Byte} (h : ExchangesTimed t) : ExchangesTimed (sendOn f t) := .ite h (.ringFault h)

/-! ### Code Unit -/

theorem printPoint {n : Serial} (h : ExchangesTimed t) : ExchangesTimed (printPoint n t) := by
  unfold Machine.printPoint
  split
  · exact h
  · dsimp only
    split <;> rename_i e <;> exact (h.appendUrgent e :)

theorem triggerPoint (h : ExchangesTimed t) : ExchangesTimed (triggerPoint t) := .ite h h

theorem completeRead (h : ExchangesTimed t) : ExchangesTimed (completeRead t) :=
  h.leave (by rw [(completeRead_always t).1])

theorem breakDetected (h : ExchangesTimed t) : ExchangesTimed (breakDetected t) :=
  h.leave (by rw [(breakDetected_always t).1])

theorem abandonRead (h : ExchangesTimed t) : ExchangesTimed (abandonRead t) := .ite h h

theorem frameCharacter {d : Byte} {p f : Bool} (h : ExchangesTimed t) : ExchangesTimed (frameCharacter d p f t) :=
  h.leave (by rw [frameCharacter_frame])

theorem codeCharacterEvent {p : CodePart} (h : ExchangesTimed t) : ExchangesTimed (codeCharacterEvent p t) := by
  unfold Machine.codeCharacterEvent
  refine .ite ?_ h
  split
  · exact h
  · unfold characterEnds
    split
    · exact h
    · exact .breakDetected h
    · dsimp only
      refine .ite ?_ ?_ <;> exact .frameCharacter (.ite h h)

theorem codeBreakEvent (h : ExchangesTimed t) : ExchangesTimed (codeBreakEvent t) := by
  unfold Machine.codeBreakEvent
  refine .ite h (.ite ?_ h)
  split
  · exact .breakDetected h
  · exact .ite (.breakDetected h) h

theorem codeBreakEndEvent (h : ExchangesTimed t) : ExchangesTimed (codeBreakEndEvent t) := by
  unfold Machine.codeBreakEndEvent
  split <;> exact h

theorem codeLineHighEvent (h : ExchangesTimed t) : ExchangesTimed (codeLineHighEvent t) := .ite h (.ite h h)

theorem idleTimerEvent (h : ExchangesTimed t) : ExchangesTimed (idleTimerEvent t) := by
  unfold Machine.idleTimerEvent idleTimerExpires
  split
  · refine .ite ?_ h
    dsimp only
    split
    · exact h
    · exact .completeRead h
    all_goals exact h
  · exact h

theorem triggerSentEvent {high : Bool} (h : ExchangesTimed t) : ExchangesTimed (triggerSentEvent high t) := by
  unfold Machine.triggerSentEvent
  split
  · exact .ite h h
  · exact h

theorem storeCodeEnable {on : Bool} (h : ExchangesTimed t) : ExchangesTimed (storeCodeEnable on t) :=
  .ite h (.ite h h.abandonRead)

/-! ### Dose Regulator -/

theorem lagDecrement {v : Nat} (h : ExchangesTimed t) : ExchangesTimed (lagDecrement v t) := by
  unfold Machine.lagDecrement
  split
  · exact h.changed ‹_› rfl rfl (h.valve_inCount ‹_›)
  · exact h

theorem doseChange {v : Nat} (h : ExchangesTimed t) (hv : t.valveInCount v = true) :
    ExchangesTimed (doseChange v t) := h.changed hv rfl rfl (h.valve_inCount hv)

theorem captureBase {v d : Nat} (h : ExchangesTimed t) (hv : t.valveInCount v = true) :
    ExchangesTimed (captureBase v d t) :=
  .ite h (.doseChange (h.changed hv rfl rfl (h.valve_inCount hv)) hv)

theorem startTrimExchange {v : Nat} {x : Int} (h : ExchangesTimed t) (hv : t.valveInCount v = true) :
    ExchangesTimed (startTrimExchange v x t) := by
  unfold Machine.startTrimExchange
  rcases appendUrgent_cases (trimFrame t v x) t with ⟨e, -⟩ | ⟨e, -⟩ <;> rw [e]
  · exact h
  · exact h.changed hv rfl rfl ⟨rfl, rfl⟩

theorem startLockout {v : Nat} (h : ExchangesTimed t) (hv : t.valveInCount v = true) :
    ExchangesTimed (startLockout v t) := by
  unfold Machine.startLockout
  rcases appendUrgent_cases (valveFrame t .off v) t with ⟨e, -⟩ | ⟨e, -⟩ <;> rw [e]
  · exact h
  · exact h.changed hv rfl rfl ⟨rfl, rfl⟩

theorem evaluateWindow {p : Product} {v : Nat} (h : ExchangesTimed t) (hv : t.valveInCount v = true) :
    ExchangesTimed (evaluateWindow p v t) := by
  have hw : ExchangesTimed (evaluationBegun v t) := h.changed hv rfl rfl (h.valve_inCount hv)
  rw [evaluateWindow_eq]
  exact .ite hw (.ite hw (.startTrimExchange hw hv))

theorem enterWeight {p : Product} {r : CanRecord} (h : ExchangesTimed t) (hv : t.valveInCount r.valve = true) :
    ExchangesTimed (enterWeight p r t) := by
  unfold Machine.enterWeight
  split
  · exact h
  · extract_lets u
    have hw : ExchangesTimed u := h.changed hv rfl rfl (h.valve_inCount hv)
    exact .ite (.evaluateWindow hw hv) hw

theorem gateHandOff {r : CanRecord} (h : ExchangesTimed t) (hv : t.valveInCount r.valve = true) :
    ExchangesTimed (gateHandOff r t) := by
  unfold Machine.gateHandOff
  extract_lets u
  have hu : ExchangesTimed u := h.changed hv rfl rfl (h.valve_inCount hv)
  refine .ite h ?_
  split
  · exact hu
  · dsimp only
    split
    · exact .enterWeight (.startLockout hu hv) ((startLockout_inCount ..).trans hv)
    · exact hu.enterWeight hv

theorem takeAck {k g v x : Byte} (h : ExchangesTimed t) : ExchangesTimed (takeAck k g v x t) := by
  unfold Machine.takeAck
  split
  · exact h
  · rename_i op _
    dsimp only
    split
    · exact h
    · have hv : t.valveInCount v.toNat = true := by simpa using ‹¬(!t.valveInCount v.toNat) = true›
      refine .ite (.ite (.ite ?accepted ?refused) h) (.ite h h)
      case accepted =>
        cases op with
        | dose => exact .doseChange (h.changed hv rfl rfl ⟨rfl, rfl⟩) hv
        | off => exact .raise (h.changed hv rfl rfl ⟨rfl, rfl⟩)
        | on => exact .doseChange (h.changed hv rfl rfl ⟨rfl, rfl⟩) hv
      case refused => exact .raise (h.changed hv rfl rfl ⟨rfl, rfl⟩)

theorem exchangeTimeoutEvent {v : Nat} (h : ExchangesTimed t) (h1 : 1 ≤ v) (h48 : v ≤ 48) :
    ExchangesTimed (exchangeTimeoutEvent v t) := by
  cases ht : (t.valve v).timer with
  | none =>
    rw [exchangeTimeoutEvent_none ht]
    exact h
  | some due =>
    have hx : (t.valve v).state.inExchange = true := by rw [← (h.valve h1 h48).1, ht]; rfl
    rw [exchangeTimeoutEvent_due ht]
    exact .raise (h.changed (h.inCount_of_inExchange h1 h48 hx) rfl rfl ⟨rfl, rfl⟩)

theorem productChange {p : Nat} (h : ExchangesTimed t) : ExchangesTimed (productChange p t) := by
  rw [productChange_eq]
  refine .raise (h.mapped rfl rfl (fun x hx => hx.abandon) fun x hx => ?_)
  simp [Valve.onProductChange, Valve.abandon, hx]

theorem selectProduct {c : BitVec 16} (h : ExchangesTimed t) : ExchangesTimed (selectProduct c t).2 := by
  unfold Machine.selectProduct
  split
  · exact h
  · split
    · exact h
    · exact .productChange h

theorem snoopedProduct {c : BitVec 16} (h : ExchangesTimed t) : ExchangesTimed (snoopedProduct c t) := by
  unfold Machine.snoopedProduct
  split
  · exact .raise h
  · exact .ite h (.productChange h)

theorem releaseValve {v : Nat} (h : ExchangesTimed t) : ExchangesTimed (releaseValve v t).2 := by
  unfold Machine.releaseValve
  split
  · exact h
  · have hv : t.valveInCount v = true := by simpa using ‹¬(!t.valveInCount v) = true›
    split
    · exact h
    · split
      · exact h
      · rcases appendUrgent_cases (valveFrame t .on v) t with ⟨e, -⟩ | ⟨e, -⟩ <;> rw [e]
        · exact h
        · exact h.changed hv rfl rfl ⟨rfl, rfl⟩

theorem clearValve {v : Nat} (h : ExchangesTimed t) : ExchangesTimed (clearValve v t).2 := by
  unfold Machine.clearValve
  split
  · exact h
  · have hv : t.valveInCount v = true := by simpa using ‹¬(!t.valveInCount v) = true›
    split
    · exact h
    · have hfault : (t.valve v).state = .fault := by simpa using ‹¬((t.valve v).state != .fault) = true›
      exact .doseChange (h.changed hv rfl rfl ((h.valve_inCount hv).withState (by rw [hfault]; rfl) rfl)) hv

/-- A count that no valve with an exchange is left above (R150). -/
theorem storeValveCount {n : Nat} (h : ExchangesTimed t) (hn : n ≤ 48)
    (hleaves : ∀ v, n < v → v ≤ t.dose.valveCount → (t.valve v).state.inExchange = false) :
    ExchangesTimed (Machine.storeValveCount n t) := by
  by_cases he : n = t.dose.valveCount
  · rwa [storeValveCount_same he]
  · have habove {v : Nat} (h48 : v ≤ 48) (hv : t.dose.valveCount < v) : (t.valve v).state.inExchange = false := by
      rw [h.above h48 hv]
      rfl
    have hcount : (Machine.storeValveCount n t).dose.valveCount = n := by rw [storeValveCount_changed he]
    refine h.rewritten (by rw [storeValveCount_changed he]; simp) (by rw [hcount]; exact hn) fun v h1 h48 => ?_
    rw [valve_storeValveCount he h1 (h.length_valves ▸ h48), hcount]
    refine ⟨(h.valve h1 h48).onCount (fun hv => ?_) (habove h48), fun hv => by rw [Valve.onCount, if_pos hv]⟩
    exact (Nat.lt_or_ge t.dose.valveCount v).elim (habove h48) (hleaves v hv)

theorem storeMode {v : Nat} {b : Byte} (h : ExchangesTimed t) (hv : t.valveInCount v = true)
    (hx : (t.valve v).state.inExchange = false) : ExchangesTimed (storeMode v b t) := by
  unfold Machine.storeMode
  split
  · rename_i st hst
    exact h.changed hv rfl rfl ((h.valve_inCount hv).setMode hx (not_inExchange_of_modeState hst))
  · exact h

/-! ### Verdict Unit -/

theorem startPulse (h : ExchangesTimed t) : ExchangesTimed (startPulse t) := .ite h h

theorem gateDecision {n : Serial} (h : ExchangesTimed t) : ExchangesTimed (gateDecision n t) := by
  unfold Machine.gateDecision
  split
  · exact h
  · extract_lets rs v r' written pulsed handed
    have hp : ExchangesTimed pulsed := .ite (.startPulse h) h
    show ExchangesTimed handed
    unfold handed
    split
    · exact hp.gateHandOff ‹_›
    · exact hp

theorem confirmAt {e : Count} (h : ExchangesTimed t) : ExchangesTimed (confirmAt e t) := by
  unfold Machine.confirmAt
  split
  · exact h
  · split <;> exact h

theorem confirmCheck {n : Serial} (h : ExchangesTimed t) : ExchangesTimed (confirmCheck n t) := by
  unfold Machine.confirmCheck
  split
  · exact h
  · extract_lets seen u
    have hu : ExchangesTimed u := .ite h h
    split
    · exact .postCause hu
    · exact hu
    · exact hu
    · exact .raise hu

/-! ### Weighing Engine and window owner -/

theorem deliverSample {x : Int} {b : Bool} (h : ExchangesTimed t) : ExchangesTimed (deliverSample x b t) :=
  h.leave (by rw [(SampleDelivered.deliverSample x b t).units])

theorem completeSampleFrame {w : BitVec 32} (h : ExchangesTimed t) : ExchangesTimed (completeSampleFrame w t) := by
  have hr {b : Bool} {u : State} (hu : ExchangesTimed u) : ExchangesTimed (restartLossTimer b u) := .ite (.raise hu) hu
  rw [completeSampleFrame_eq]
  exact .deliverSample (hr h)

theorem shortFrameEvent (h : ExchangesTimed t) : ExchangesTimed (shortFrameEvent t) := by
  rcases shortFrameEvent_cases t with ⟨-, e⟩ | ⟨-, e⟩ <;> rw [e] <;> exact h

theorem sampleFrameEvent {p : SamplePart} (h : ExchangesTimed t) : ExchangesTimed (sampleFrameEvent p t) := by
  cases p with
  | sync =>
    show ExchangesTimed (sampleSync t)
    unfold sampleSync
    split
    · exact h
    · exact .shortFrameEvent h
  | clk b =>
    show ExchangesTimed (sampleClock b t)
    rcases sampleClock_cases b t with ⟨-, e⟩ | ⟨bits, -, ⟨-, e⟩ | ⟨-, e⟩⟩ <;> rw [e]
    · exact h
    · exact h
    · exact .completeSampleFrame h
  | frame w =>
    show ExchangesTimed (wholeSampleFrame w t)
    unfold wholeSampleFrame
    split
    · exact .completeSampleFrame h
    · exact .completeSampleFrame h
    · exact .completeSampleFrame (.shortFrameEvent h)

theorem lossExpiry (h : ExchangesTimed t) : ExchangesTimed (lossExpiry t) := by
  refine .ite h (.raise ?_)
  unfold faultOpenWindow
  split
  · exact .ite h h
  · exact h

theorem sampleLossEvent (h : ExchangesTimed t) : ExchangesTimed (sampleLossEvent t) := by
  unfold Machine.sampleLossEvent
  split
  · exact .lossExpiry h
  · exact h

theorem storeSampleRate {r : Nat} (h : ExchangesTimed t) : ExchangesTimed (storeSampleRate r t) := by
  unfold Machine.storeSampleRate
  dsimp only
  split
  · exact .ite (.lossExpiry h) h
  · exact h

theorem openOwner {o : WindowOwner} (h : ExchangesTimed t) : ExchangesTimed (openOwner o t) := by
  unfold Machine.openOwner engineOpen
  split <;> exact h

theorem closeOwner (h : ExchangesTimed t) : ExchangesTimed (closeOwner t) := by
  unfold Machine.closeOwner engineClose
  split
  · obtain ⟨c, w, hw⟩ := finishWindow_eq _ _ _ _ _ { t with track.owner := none, weigh.slot := .none }
    rw [hw]
    exact h
  · exact h

theorem ownerPoints {n : Serial} (h : ExchangesTimed t) : ExchangesTimed (ownerPoints n t) := by
  unfold Machine.ownerPoints
  extract_lets u
  have hu : ExchangesTimed u := by
    unfold u
    split
    · exact .ite (.openOwner h) h
    · exact h
  split
  · exact .ite (.closeOwner hu) hu
  · exact hu

/-! ### Tracking Unit -/

theorem trackDischarge {v : Nat} {b : Bool} (h : ExchangesTimed t) : ExchangesTimed (trackDischarge v b t) :=
  h.leave (by rw [trackDischarge_frame])

theorem trackArrival {e : Count} (h : ExchangesTimed t) : ExchangesTimed (trackArrival e t) :=
  h.leave (by rw [trackArrival_onlyArrival e t])

theorem takePoint {n : Serial} {p : PointsPassed → Bool} {m : PointsPassed → PointsPassed}
    {q : CanRecord → Option Count} {act : State → State} (h : ExchangesTimed t)
    (ha : ∀ {t}, ExchangesTimed t → ExchangesTimed (act t)) : ExchangesTimed (takePoint n p m q act t) := by
  unfold Machine.takePoint
  split
  · exact h
  · split
    · exact h
    · exact .ite (ha h) h

theorem lostRunLoss (h : ExchangesTimed t) : ExchangesTimed (lostRunLoss t) := h.leave (by rw [lostRunLoss_frame])

theorem loseRecord {n : Serial} (h : ExchangesTimed t) : ExchangesTimed (loseRecord n t) := by
  unfold Machine.loseRecord
  split
  · exact h
  · exact .lostRunLoss (.canReport (.raise h))

theorem eyeClose {n : Serial} (h : ExchangesTimed t) : ExchangesTimed (eyeClose n t) := by
  unfold Machine.eyeClose
  split
  · exact h
  · exact .ite (.loseRecord h) h

theorem exitRecord {n : Serial} (h : ExchangesTimed t) : ExchangesTimed (exitRecord n t) := by
  have hc : ExchangesTimed (Machine.confirmCheck n t) := .confirmCheck h
  unfold Machine.exitRecord
  dsimp only
  split
  · exact hc
  · exact .canReport hc

theorem recordPoints {n : Serial} (h : ExchangesTimed t) : ExchangesTimed (recordPoints t n) := by
  unfold Machine.recordPoints
  extract_lets afterPrint afterTrigger afterReader afterEye afterOwner afterGate
  have hPrint : ExchangesTimed afterPrint := .takePoint h .printPoint
  have hTrigger : ExchangesTimed afterTrigger := .takePoint hPrint .triggerPoint
  have hReader : ExchangesTimed afterReader := .takePoint hTrigger id
  have hEye : ExchangesTimed afterEye := .takePoint hReader .eyeClose
  have hOwner : ExchangesTimed afterOwner := .ownerPoints hEye
  have hGate : ExchangesTimed afterGate := .takePoint hOwner .gateDecision
  exact .takePoint hGate .exitRecord

theorem positionEvent {d : Direction} (h : ExchangesTimed t) : ExchangesTimed (positionEvent d t) := by
  unfold Machine.positionEvent
  split
  · exact h.foldl fun _ _ _ h => .recordPoints h
  · exact h

theorem startLine (h : ExchangesTimed t) : ExchangesTimed (startLine t).2 := by
  unfold Machine.startLine
  split
  · exact h
  · split
    · exact h
    · exact .raise h

theorem stopLine (h : ExchangesTimed t) : ExchangesTimed (stopLine t) := by
  cases hl : t.track.line with
  | idle => rwa [stopLine_idle hl]
  | run =>
    rw [stopLine_run hl]
    exact .raise h

/-! ### Input Unit -/

theorem homeEdge (h : ExchangesTimed t) : ExchangesTimed (homeEdge t) := .ite h (.ite (.raise h) h)

theorem deliverEdge {i : Input} {b : Bool} (h : ExchangesTimed t) : ExchangesTimed (deliverEdge i b t) := by
  unfold Machine.deliverEdge
  split
  · rw [dischargeEdge_eq]
    exact .lagDecrement (.trackDischarge (t := discharged t) h)
  · exact .homeEdge h
  · exact .trackArrival h
  · exact .confirmAt h
  · exact h

theorem acceptInput {i : Input} (h : ExchangesTimed t) : ExchangesTimed (acceptInput i t) := .deliverEdge h

theorem inputPinEvent {i : Input} {b : Bool} (h : ExchangesTimed t) : ExchangesTimed (inputPinEvent i b t) := by
  unfold Machine.inputPinEvent
  refine .ite h ?_
  dsimp only
  split
  · exact .ite (.acceptInput h) h
  · exact h

theorem holdTimerEvent {i : Input} {b : Bool} (h : ExchangesTimed t) : ExchangesTimed (holdTimerEvent i b t) := by
  unfold Machine.holdTimerEvent
  dsimp only
  split
  · exact .ite (.acceptInput h) h
  · exact h

theorem countStep (h : ExchangesTimed t) : ExchangesTimed (countStep t).2 := h.leave (by rw [countStep_frame])

theorem deliverStep {d : Option Direction} (h : ExchangesTimed t) : ExchangesTimed (deliverStep d t) := by
  unfold Machine.deliverStep
  split
  · exact .positionEvent h
  · exact .raise h

theorem acceptPair (h : ExchangesTimed t) : ExchangesTimed (acceptPair t) := .deliverStep (.countStep h)

theorem encoderPinEvent {a b : Bool} (h : ExchangesTimed t) : ExchangesTimed (encoderPinEvent a b t) :=
  .ite h (.ite h (.ite (.acceptPair h) h))

theorem encoderStepEvent (h : ExchangesTimed t) : ExchangesTimed (encoderStepEvent t) := by
  unfold Machine.encoderStepEvent
  split
  · exact .acceptPair h
  · exact h

theorem arrivalEvent {b : Bool} (h : ExchangesTimed t) : ExchangesTimed (arrivalEvent b t) := by
  refine .ite ?_ (.holdTimerEvent h)
  unfold arrivalWithStep
  split
  · exact .ite (.deliverStep (.acceptInput (.countStep h))) h
  · exact h

theorem storeInputTime {i : Input} {n : Nat} (h : ExchangesTimed t) : ExchangesTimed (storeInputTime i n t) := by
  unfold Machine.storeInputTime
  dsimp only
  split
  · exact .ite (.acceptInput h) h
  · exact h

theorem storeEncoderTime {n : Nat} (h : ExchangesTimed t) : ExchangesTimed (storeEncoderTime n t) := by
  unfold Machine.storeEncoderTime
  dsimp only
  split
  · exact .ite (.acceptPair h) h
  · exact h

theorem storeFilterTime {w : FilterInput} {n : Nat} (h : ExchangesTimed t) : ExchangesTimed (storeFilterTime w n t) := by
  cases w with
  | discrete => exact .storeInputTime h
  | encoder => exact .storeEncoderTime h

/-! ### Line reset and CLEAR COUNTERS -/

theorem lineReset {reply : State → State} (h : ExchangesTimed t) (hr : OnlyReplies reply) :
    ExchangesTimed (lineReset reply t) := by
  rw [lineReset_eq hr]
  exact h.mapped rfl rfl (fun x hx => hx.onLineReset) fun x hx => by simp [Valve.onLineReset, hx, ValveState.inExchange]

theorem clearAllCounters (h : ExchangesTimed t) : ExchangesTimed (clearAllCounters t) :=
  h.mapped (f := fun x => { x with counters := {} }) rfl rfl (fun _ hx => hx) fun _ hx => hx

/-! ### Tables (R150, R168, R186) -/

/-- A write of a table stores its entries only where each has passed the table's tests. -/
theorem writeTable {id : Nat} {refuse : List Entry → State → Option Refused} {store : List Entry → State → State}
    {first count : Byte} {d : List Byte} (h : ExchangesTimed t)
    (hs : ∀ size, let es := entriesOf size first.toNat count.toNat d
      refuse es t = none → ExchangesTimed (store es t)) :
    ExchangesTimed (writeTable id refuse store first count d t) := by
  cases ht : tableShape id with
  | none =>
    simp only [Machine.writeTable, ht]
    exact .appendReply h
  | some shape =>
    rcases writeTable_cases id refuse store first count d t shape ht with ⟨st, x, e⟩ | ⟨hpass, e⟩ <;> rw [e]
    · exact .appendReply h
    · exact .appendReply (hs _ hpass)

theorem writeStations {a b : Byte} {d : List Byte} (h : ExchangesTimed t) : ExchangesTimed (writeStations a b d t) :=
  .writeTable h fun _ _ => h

theorem writeDistances {a b : Byte} {d : List Byte} (h : ExchangesTimed t) : ExchangesTimed (writeDistances a b d t) :=
  .writeTable h fun _ _ => h

theorem writeRules {a b : Byte} {d : List Byte} (h : ExchangesTimed t) : ExchangesTimed (writeRules a b d t) :=
  .writeTable h fun _ _ => h.foldl fun _ _ _ h => h

theorem writeProducts {a b : Byte} {d : List Byte} (h : ExchangesTimed t) : ExchangesTimed (writeProducts a b d t) :=
  .writeTable h fun _ _ => h

theorem writeTestWeights {a b : Byte} {d : List Byte} (h : ExchangesTimed t) :
    ExchangesTimed (writeTestWeights a b d t) := .writeTable h fun _ _ => h

theorem writeEvents {a b : Byte} {d : List Byte} (h : ExchangesTimed t) : ExchangesTimed (writeEvents a b d t) :=
  .writeTable h fun _ _ => h

/-- No setting but the valve count reaches a valve entry. -/
theorem storeSetting {e : Entry} (h : ExchangesTimed t) (he : e.1 ≠ 2) : ExchangesTimed (storeSetting e t) := by
  unfold Machine.storeSetting
  dsimp only
  split
  case h_1 e2 => exact absurd e2 he
  case h_8 => exact .storeSampleRate h
  case h_17 => exact .storeCodeEnable h
  case h_2 | h_3 | h_4 | h_5 | h_6 | h_7 => exact .storeFilterTime h
  all_goals exact h

/-- A valve count that passes its tests is in range and leaves no exchange above it (R150). -/
theorem storeCountSetting {b : List Byte} (h : ExchangesTimed t) (hpass : settingRefusal t (2, b) = none) :
    ExchangesTimed (Machine.storeSetting (2, b) t) := by
  obtain ⟨hcount, hrange⟩ := countSetting_passes hpass
  exact h.storeValveCount hrange fun v hlt hle => not_inExchange_of_countPasses h.valveCount_le hcount hlt hle

/-- The valve count is the first of the settings that can pass, so a run stores it first or not at all. -/
theorem storeSettings {es : List Entry} (h : ExchangesTimed t) (hsorted : es.Pairwise (·.1 < ·.1))
    (hpass : ∀ e ∈ es, settingRefusal t e = none) : ExchangesTimed (storeSettings es t) := by
  cases es with
  | nil => exact h
  | cons e es =>
    obtain ⟨hafter, -⟩ := List.pairwise_cons.mp hsorted
    obtain ⟨he, -⟩ := List.forall_mem_cons.mp hpass
    have hindex : 2 ≤ e.1 := two_le_of_settingPasses he
    refine foldl (t := Machine.storeSetting e t) ?first fun x hx _ hu => hu.storeSetting ?later
    case first =>
      by_cases h2 : e.1 = 2
      · obtain ⟨_, b⟩ := e
        subst h2
        exact h.storeCountSetting he
      · exact h.storeSetting h2
    case later =>
      have := hafter x hx
      omega

theorem writeSettings {a b : Byte} {d : List Byte} (h : ExchangesTimed t) : ExchangesTimed (writeSettings a b d t) :=
  .writeTable h fun _ hpass => h.storeSettings (pairwise_entriesOf ..) (firstRefusal_eq_none_iff.mp hpass)

/-- The modes of a run are stored one by one; each finds its valve without an exchange (R168). -/
theorem storeModes {es : List Entry} (h : ExchangesTimed t) (hidle : ∀ e ∈ es, t.TakesMode e.1) :
    ExchangesTimed (storeModes es t) := by
  induction es generalizing t with
  | nil => exact h
  | cons e es ih =>
    obtain ⟨he, hes⟩ := List.forall_mem_cons.mp hidle
    have ⟨hv, hx⟩ := he
    have hl : e.1 ≤ t.dose.valves.length := by
      rw [h.length_valves]
      obtain ⟨-, h48, -⟩ := h.inCount hv
      exact h48
    exact ih (h.storeMode hv hx) fun x hm => (hes x hm).storeMode hl he

theorem writeModes {a b : Byte} {d : List Byte} (h : ExchangesTimed t) : ExchangesTimed (writeModes a b d t) :=
  .writeTable h fun _ hpass => h.storeModes fun e he => takesMode_of_passes (firstRefusal_eq_none_iff.mp hpass e he)

theorem performTableWrite {d : List Byte} (h : ExchangesTimed t) : ExchangesTimed (performTableWrite d t) := by
  unfold Machine.performTableWrite
  split
  · split
    · exact .writeStations h
    · exact .writeSettings h
    · exact .writeDistances h
    · exact .writeRules h
    · exact .writeProducts h
    · exact .writeModes h
    · exact .writeTestWeights h
    · exact .writeEvents h
    · exact .appendReply h
  · exact .appendReply h

/-! ### Management Unit -/

theorem takeRequest {src k : Byte} {perform : State → State} (h : ExchangesTimed t)
    (hp : ∀ {t}, ExchangesTimed t → ExchangesTimed (perform t)) : ExchangesTimed (takeRequest src k perform t) :=
  .ite h (.ite (hp h) (.ite (.appendReply h) h))

theorem unknownKindEvent {k : Byte} (h : ExchangesTimed t) : ExchangesTimed (unknownKindEvent k t) :=
  .ite h (.appendReply h)

theorem performIdentify {d : List Byte} (h : ExchangesTimed t) : ExchangesTimed (performIdentify d t) :=
  .ite (.appendReply h) (.appendReply h)

theorem performTableRead {d : List Byte} (h : ExchangesTimed t) : ExchangesTimed (performTableRead d t) :=
  .appendReply h

theorem actZero (h : ExchangesTimed t) : ExchangesTimed (actZero t) := by
  unfold Machine.actZero
  split
  · exact .appendReply h
  · exact h

theorem actTestOn (h : ExchangesTimed t) : ExchangesTimed (actTestOn t) := by
  refine .appendReply ?_
  unfold testModeOn
  split
  · exact h
  · split
    · exact h
    · split <;> exact h

theorem actLineReset (h : ExchangesTimed t) : ExchangesTimed (actLineReset t) :=
  .lineReset h appendsReplies_lineReset.frame

theorem performCode {c : Byte} {d : List Byte} (h : ExchangesTimed t) : ExchangesTimed (performCode c d t) := by
  unfold Machine.performCode
  split
  case h_1 => exact .appendReply (.startLine h)
  case h_2 => exact .appendReply (.stopLine h)
  case h_3 => exact .actLineReset h
  case h_4 => exact .appendReply (.selectProduct h)
  case h_5 => exact .actZero h
  case h_8 => exact .appendReply (.releaseValve h)
  case h_9 => exact .appendReply (.clearValve h)
  case h_10 => exact .actTestOn h
  case h_12 => exact .appendReply (.clearAllCounters h)
  case h_13 => exact .appendReply (.postCause h)
  case h_6 | h_7 | h_11 => exact .appendReply h

theorem performAction {d : List Byte} (h : ExchangesTimed t) : ExchangesTimed (performAction d t) := by
  unfold Machine.performAction
  split
  · exact .appendReply h
  · split
    · exact .appendReply h
    · exact .ite (.performCode h) (.appendReply h)

theorem manageFrame {src k : Byte} {d : List Byte} (h : ExchangesTimed t) : ExchangesTimed (manageFrame src k d t) :=
  .ite (.takeRequest h .performTableRead) (.ite (.takeRequest h .performTableWrite)
    (.ite (.takeRequest h .performAction) (.takeRequest h .performIdentify)))

/-! ### Pass Stage -/

theorem addressedFrame {f : List Byte} (h : ExchangesTimed t) : ExchangesTimed (addressedFrame f t) :=
  .ite (.ite (.takeAck h) h) (.ite (.manageFrame h) (.ite (.unknownKindEvent h) h))

theorem snoopCopy {f : List Byte} (h : ExchangesTimed t) : ExchangesTimed (snoopCopy f t) :=
  .ite (.ite (.snoopedProduct h) h) h

theorem rewritePair {p : List Byte} (h : ExchangesTimed t) : ExchangesTimed (rewritePair p t).2 := by
  unfold Machine.rewritePair
  dsimp only
  split
  · exact .captureBase h ‹_›
  · exact h

theorem rewritePairs {ps : List (List Byte)} (h : ExchangesTimed t) : ExchangesTimed (rewritePairs ps t).2 := by
  induction ps generalizing t with
  | nil => exact h
  | cons p ps ih => exact ih (.rewritePair h)

theorem trimDecision {f : List Byte} (h : ExchangesTimed t) : ExchangesTimed (trimDecision f t) :=
  .ite (.sendOn h) (.ite (.sendOn (ExchangesTimed.rewritePairs h :)) (.sendOn h))

theorem passFrame {f : List Byte} (h : ExchangesTimed t) : ExchangesTimed (passFrame f t) := by
  unfold Machine.passFrame
  refine .ite (.sendOn h) (.ite h (.ite (.addressedFrame h) ?_))
  split
  · exact .sendOn h
  · exact .sendOn h
  · exact h
  · exact .sendOn (.snoopCopy h)
  · exact .trimDecision h

/-! ### Ring Port -/

theorem completeFrame {f : List Byte} {b : Bool} (h : ExchangesTimed t) : ExchangesTimed (completeFrame f b t) :=
  .ite (.passFrame (.ite h h)) (.ringFault h)

theorem assemble {d : Byte} {mark sound noisy : Bool} (h : ExchangesTimed t) :
    ExchangesTimed (assemble d mark sound noisy t) := by
  unfold Machine.assemble
  split
  · exact .ite h h
  · exact .ite (.ringFault h) (.ite (ringFault (f := .truncated) h)
      (.ite (.ringFault h) (.ite (.completeFrame h) h)))
  · exact .ite h h

theorem falseStart (h : ExchangesTimed t) : ExchangesTimed (falseStart t) := by
  unfold Machine.falseStart
  dsimp only
  split <;> exact h

theorem ringBreakDetected (h : ExchangesTimed t) : ExchangesTimed (ringBreakDetected t) := by
  have hr {u : State} (hu : ExchangesTimed u) : ExchangesTimed (requestRelay u) := by
    unfold requestRelay
    split
    · exact hu
    · split <;> exact hu
  unfold Machine.ringBreakDetected
  exact hr (.ite (.ringFault h) h)

theorem ringBreakEvent (h : ExchangesTimed t) : ExchangesTimed (ringBreakEvent t) := .ite h (.ringBreakDetected h)

theorem ringCharacterEvent {c : RingSamples} (h : ExchangesTimed t) : ExchangesTimed (ringCharacterEvent c t) := by
  unfold Machine.ringCharacterEvent
  refine .ite h ?_
  split
  · exact .falseStart h
  · exact .ringBreakDetected h
  · exact .assemble h

theorem falseStartEvent (h : ExchangesTimed t) : ExchangesTimed (falseStartEvent t) := .ite h (.falseStart h)

theorem frameCompleteEvent {d : Byte} {b : Bool} (h : ExchangesTimed t) :
    ExchangesTimed (frameCompleteEvent d b t) := by
  unfold Machine.frameCompleteEvent
  split
  · exact .ite (.completeFrame h) h
  all_goals exact h

theorem breakEnds {start len : Nat} (h : ExchangesTimed t) : ExchangesTimed (breakEnds start len t) := by
  unfold Machine.breakEnds recordBreak
  split <;> exact h

theorem resyncEvent {len : Nat} (h : ExchangesTimed t) : ExchangesTimed (resyncEvent len t) := by
  unfold Machine.resyncEvent
  split
  · exact .ite (.breakEnds h) h
  · exact h

theorem longBreakEvent (h : ExchangesTimed t) : ExchangesTimed (longBreakEvent t) := by
  unfold Machine.longBreakEvent
  split
  · exact .lineReset h fun _ => rfl
  · exact h

theorem longBreakEndEvent {len : Nat} (h : ExchangesTimed t) : ExchangesTimed (longBreakEndEvent len t) := by
  unfold Machine.longBreakEndEvent
  split
  · exact .breakEnds h
  · exact h

theorem interCharacterEvent {low : Ticks} (h : ExchangesTimed t) : ExchangesTimed (interCharacterEvent low t) :=
  h.leave (by rw [interCharacterEvent_frame])

theorem gapEvent (h : ExchangesTimed t) : ExchangesTimed (gapEvent t) := by
  unfold Machine.gapEvent
  split <;> exact h

theorem frameSentEvent (h : ExchangesTimed t) : ExchangesTimed (frameSentEvent t) := by
  unfold Machine.frameSentEvent
  split
  · exact .ite h h
  · exact h

theorem relayEndEvent (h : ExchangesTimed t) : ExchangesTimed (relayEndEvent t) := by
  unfold Machine.relayEndEvent
  split
  · exact .ite h h
  · exact h

theorem noticeRetryEvent (h : ExchangesTimed t) : ExchangesTimed (noticeRetryEvent t) := by
  have hn := h.queueNotice
  unfold Machine.noticeRetryEvent
  refine .ite ?_ h
  split <;> rename_i e <;> rw [e] at hn <;> exact hn

theorem rejectPulseEvent (h : ExchangesTimed t) : ExchangesTimed (rejectPulseEvent t) := by
  unfold Machine.rejectPulseEvent
  split <;> exact h

/-! ### Every command -/

/-- The frame around an event keeps what the event keeps. -/
theorem event {f : State → State} (h : ExchangesTimed s) (hf : ∀ {t}, ExchangesTimed t → ExchangesTimed (f t))
    (e : event f s = .next t) : ExchangesTimed t := by
  unfold Machine.event at e
  split at e <;> cases e
  · exact h
  · exact (hf h).leave (arbitrate_dose _)

/-- A request keeps what its performance keeps. -/
theorem request {src k : Byte} {perform : State → State} (h : ExchangesTimed s)
    (hp : ∀ {t}, ExchangesTimed t → ExchangesTimed (perform t))
    (e : Machine.event (Machine.takeRequest src k perform) s = .next t) : ExchangesTimed t :=
  h.event (fun h => .takeRequest h hp) e

theorem resetAsserted (h : ExchangesTimed s) (e : execResetAsserted s = .next t) : ExchangesTimed t := by
  unfold execResetAsserted at e
  split at e <;> cases e <;> exact h

theorem afterReset (p : Pins) (q : List Instr) : ExchangesTimed (State.afterReset p q) := by
  refine ⟨rfl, Nat.zero_le _, fun v _ _ => ?_⟩
  rw [valve_afterReset]
  exact ⟨rfl, rfl, fun _ => rfl⟩

/-- A timeout names a valve of the table, or is no event. -/
theorem timeoutInTable {v : Byte} (h : ExchangesTimed t) : ExchangesTimed
    (if 1 ≤ v.toNat && v.toNat ≤ Config.valves then Machine.exchangeTimeoutEvent v.toNat t else t) := by
  split
  · rename_i hv
    obtain ⟨h1, h48⟩ := Bool.and_eq_true_iff.mp hv
    exact h.exchangeTimeoutEvent (of_decide_eq_true h1) (of_decide_eq_true h48)
  · exact h

/-- Every command keeps the exchanges timed. -/
theorem exec (h : ExchangesTimed s) (c : Instr) (e : exec c s = .next t) : ExchangesTimed t := by
  cases c with
  | hardReset p =>
    cases e
    exact .afterReset p _
  | resetAsserted => exact h.resetAsserted e
  | ringCharacter => exact h.event .ringCharacterEvent e
  | frameComplete => exact h.event .frameCompleteEvent e
  | interCharacterTimeout => exact h.event .interCharacterEvent e
  | ringBreak => exact h.event .ringBreakEvent e
  | resync => exact h.event .resyncEvent e
  | longBreak => exact h.event .longBreakEvent e
  | longBreakEnd => exact h.event .longBreakEndEvent e
  | gap => exact h.event .gapEvent e
  | frameSent => exact h.event .frameSentEvent e
  | relayEnd => exact h.event .relayEndEvent e
  | noticeRetry => exact h.event .noticeRetryEvent e
  | ringFalseStart => exact h.event .falseStartEvent e
  | inputPinChange => exact h.event .inputPinEvent e
  | discharge | homeEdge | confirmEvent | pocketChange | acceptedFallingEdge => exact h.event .holdTimerEvent e
  | arrival => exact h.event .arrivalEvent e
  | encoderPinChange => exact h.event .encoderPinEvent e
  | encoderStep => exact h.event .encoderStepEvent e
  | sampleFrame => exact h.event .sampleFrameEvent e
  | shortFrame => exact h.event .shortFrameEvent e
  | sampleLoss => exact h.event .sampleLossEvent e
  | codeCharacter => exact h.event .codeCharacterEvent e
  | codeBreak => exact h.event .codeBreakEvent e
  | codeBreakEnd => exact h.event .codeBreakEndEvent e
  | codeLineHigh => exact h.event .codeLineHighEvent e
  | idleTimerExpiry => exact h.event .idleTimerEvent e
  | triggerSent => exact h.event .triggerSentEvent e
  | exchangeTimeout => exact h.event .timeoutInTable e
  | rejectPulseExpiry => exact h.event .rejectPulseEvent e
  | fillAck => exact h.event (fun h => .ite h (.takeAck h)) e
  | unknownKindRequest => exact h.event .unknownKindEvent e
  | identify => exact h.request .performIdentify e
  | tableRead => exact h.request .performTableRead e
  | stationsWrite => exact h.request .writeStations e
  | distancesWrite => exact h.request .writeDistances e
  | passRulesWrite => exact h.request .writeRules e
  | productsWrite => exact h.request .writeProducts e
  | valveModeWrite => exact h.request .writeModes e
  | testWeightsWrite => exact h.request .writeTestWeights e
  | eventsWrite => exact h.request .writeEvents e
  | settingsWrite | valveCountWrite | filterTimeWrite | sampleRateWrite | weighingSettingsWrite
  | calibrationFactorWrite | lotStringWrite | codePortConfigWrite | codePortEnable => exact h.request .writeSettings e
  | start => exact h.request (fun h => .appendReply (.startLine h)) e
  | stop => exact h.request (fun h => .appendReply (.stopLine h)) e
  | lineResetAction => exact h.request .actLineReset e
  | selectProduct => exact h.request (fun h => .appendReply (.selectProduct h)) e
  | zero => exact h.request .actZero e
  | clearStop => exact h.request (perform := actClearStop) (fun h => .appendReply h) e
  | clearEvents _ set => exact h.request (perform := actClearEvents set) (fun h => .appendReply h) e
  | valveRelease => exact h.request (fun h => .appendReply (.releaseValve h)) e
  | valveClear => exact h.request (fun h => .appendReply (.clearValve h)) e
  | testOn => exact h.request .actTestOn e
  | testOff => exact h.request (perform := actTestOff) (fun h => .appendReply h) e
  | clearCounters => exact h.request (fun h => .appendReply (.clearAllCounters h)) e
  | stopRequest => exact h.request (fun h => .appendReply (.postCause h)) e
  | badTableWrite => exact h.request .performTableWrite e
  | unknownActionCode => exact h.request .performAction e

/-- Every step keeps the exchanges timed. -/
theorem step (h : ExchangesTimed s) (e : step s = .next t) : ExchangesTimed t := by
  unfold Machine.step at e
  split at e
  · rename_i c rest _
    have hc : ExchangesTimed { s with pending := rest } := h
    exact hc.exec c e
  · cases e
    exact h

end ExchangesTimed

/-- Settles O58: every operation of the part keeps the exchanges timed, and so every step does. -/
theorem exchangesStayTimed : Obligations.ExchangesStayTimed := fun _ _ hs e => hs.step e

end Sys2Proof.Machine
end

section
/-! PROOFS. The NOTICE that waits or is pending, at every step (R192): O59. -/

namespace Sys2Proof.Machine

/-! ## The NOTICE frames of a queue -/

theorem noticeWaits_eq_false_iff {s : State} : noticeWaits s = false ↔ waitingNotices s = 0 := by
  simp [noticeWaits, waitingNotices, List.filter_eq_nil_iff]

theorem waitingNotices_append {s u : State} {f : RoutineFrame} (h : u.ring.routine = s.ring.routine ++ [f]) :
    waitingNotices u = waitingNotices s + if f.isNotice then 1 else 0 := by
  rw [waitingNotices, h, List.filter_append, List.length_append]
  cases f <;> rfl

/-! ## The whole part

For each operation `f` of the model, `OneNotice.f` says that `f` keeps the invariant. An update of fields outside the
Routine Queue and the notice-pending flag keeps it by unfolding, so `h` itself closes its case. -/

namespace OneNotice

variable {s t u : State}

/-- The Ring Port and the Management Unit left as they are. -/
theorem leave (h : OneNotice t) (hring : u.ring = t.ring) (hmgmt : u.mgmt = t.mgmt) : OneNotice u := by
  unfold OneNotice waitingNotices at h ⊢
  rwa [hring, hmgmt]

/-- No NOTICE waits. -/
theorem of_none (h : waitingNotices u = 0) : OneNotice u := ⟨h ▸ Nat.zero_le 1, fun _ => h⟩

/-- The first NOTICE joins the queue, and none is pending. -/
theorem joined (h : waitingNotices t = 0) (hq : u.ring.routine = t.ring.routine ++ [.notice])
    (hp : u.mgmt.noticePending = false) : OneNotice u := by
  have hw : waitingNotices u = 1 := by
    rw [waitingNotices_append hq, h]
    rfl
  exact ⟨hw.le, fun hpending => by rw [hp] at hpending; cases hpending⟩

/-- A frame that is no NOTICE joins the queue. -/
theorem joinedByReady (h : OneNotice t) {f : OwnFrame} (hq : u.ring.routine = t.ring.routine ++ [.ready f])
    (hp : u.mgmt.noticePending = t.mgmt.noticePending) : OneNotice u := by
  have hw : waitingNotices u = waitingNotices t := waitingNotices_append hq
  rwa [OneNotice, hw, hp]

/-- Frames leave the queue. -/
theorem departed (h : OneNotice t) (hq : u.ring.routine <:+ t.ring.routine)
    (hp : u.mgmt.noticePending = t.mgmt.noticePending) : OneNotice u := by
  have hw : waitingNotices u ≤ waitingNotices t := (hq.sublist.filter _).length_le
  obtain ⟨hone, hnone⟩ := h
  exact ⟨hw.trans hone, fun hpending => Nat.le_zero.mp (hw.trans (hnone (hp ▸ hpending)).le)⟩

/-- A choice between two states. -/
theorem ite {c : Prop} [Decidable c] (h : OneNotice t) (h' : OneNotice u) : OneNotice (if c then t else u) := by
  split
  · exact h
  · exact h'

/-- What is kept at each element of a list is kept along the list. -/
theorem foldl {α : Type} {f : State → α → State} {l : List α} (h : OneNotice t)
    (hf : ∀ {a t}, OneNotice t → OneNotice (f t a)) : OneNotice (l.foldl f t) := by
  induction l generalizing t with
  | nil => exact h
  | cons a l ih => exact ih (hf h)

/-! ### Queues and latches -/

/-- A NOTICE falls due: it joins the queue or becomes pending only where none waits and none is pending. -/
theorem noticeDue (h : OneNotice t) : OneNotice (noticeDue t) := by
  unfold Machine.noticeDue
  split
  · exact h
  · rename_i hnone
    simp only [Bool.or_eq_true, not_or, Bool.not_eq_true, noticeWaits_eq_false_iff] at hnone
    obtain ⟨hw, hp⟩ := hnone
    unfold queueNotice
    rcases appendRoutine_cases .notice t with ⟨e, -⟩ | ⟨e, -⟩ <;> rw [e]
    · exact of_none hw
    · exact joined hw rfl hp

theorem raise {l : EventLatch} (h : OneNotice t) : OneNotice (raise l t) :=
  .ite h (.ite (noticeDue h) h)

theorem appendReply {d k : Byte} {a : Answer} (h : OneNotice t) : OneNotice (appendReply d k a t) := by
  unfold Machine.appendReply
  dsimp only
  rcases appendRoutine_cases
    (.ready ⟨.managementUnit, d, kindReply, [k, a.status.code, a.detail] ++ a.data⟩) t with ⟨e, -⟩ | ⟨e, -⟩ <;> rw [e]
  · exact h
  · exact h.joinedByReady rfl rfl

theorem canReport {b : Bool} {r : CanRecord} (h : OneNotice t) : OneNotice (canReport b r t) := by
  rcases canReport_cases b r t with e | e | e <;> rw [e]
  · exact h
  · exact h.joinedByReady rfl rfl
  · exact .raise h

/-- The retry appends a NOTICE only where one is pending, so that none waits. -/
theorem noticeRetryEvent (h : OneNotice t) : OneNotice (noticeRetryEvent t) := by
  unfold Machine.noticeRetryEvent
  split
  · rename_i hdue
    obtain ⟨hp, -⟩ := Bool.and_eq_true_iff.mp hdue
    obtain ⟨-, hnone⟩ := h
    unfold queueNotice
    rcases appendRoutine_cases .notice t with ⟨e, -⟩ | ⟨e, -⟩ <;> rw [e]
    · exact of_none (hnone hp)
    · exact joined (hnone hp) rfl rfl
  · exact h

theorem arbitrate (h : OneNotice t) : OneNotice (arbitrate t) := by
  obtain ⟨-, -, hq⟩ := arbitrate_suffix t
  exact h.departed hq (by rw [arbitrate_frame])

/-- A line reset empties the queue; the REPLY and one NOTICE at most are appended after it (R189, R192). -/
theorem lineReset {replies : List RoutineFrame} {reply : State → State} (ha : AppendsReplies replies reply)
    (s : State) : OneNotice (lineReset reply s) := by
  have hraised : OneNotice (resetRaised reply s) := by
    cases h : repeaterOnly s with
    | true =>
      rw [resetRaised_repeater ha h]
      exact of_none rfl
    | false =>
      have hnone : replies.filter RoutineFrame.isNotice = [] := by
        simpa [List.filter_eq_nil_iff] using ha.noNotice
      rw [resetRaised_listening ha h]
      refine ⟨?_, nofun⟩
      rw [waitingNotices, List.filter_append, hnone]
      split <;> decide
  exact hraised.leave (by rw [lineReset_eq ha.frame]) (by rw [lineReset_eq ha.frame])

theorem postCause {c : Cause} (h : OneNotice t) : OneNotice (postCause c t) := .ite (.raise h) h

theorem ringFault {f : RingFault} (h : OneNotice t) : OneNotice (ringFault f t) := .raise h

theorem sendOn {f : List Byte} (h : OneNotice t) : OneNotice (sendOn f t) := .ite h (.ringFault h)

theorem appendUrgent {f : OwnFrame} {b : Bool} (h : OneNotice t) (e : appendUrgent f t = (b, u)) : OneNotice u := by
  rcases appendUrgent_cases f t with ⟨hu, -⟩ | ⟨hu, -⟩ <;> rw [hu] at e <;> cases e <;> exact h

/-! ### Code Unit -/

theorem printPoint {n : Serial} (h : OneNotice t) : OneNotice (printPoint n t) := by
  unfold Machine.printPoint
  split
  · exact h
  · dsimp only
    split <;> rename_i e <;> exact (h.appendUrgent e :)

theorem triggerPoint (h : OneNotice t) : OneNotice (triggerPoint t) := .ite h h

theorem completeRead (h : OneNotice t) : OneNotice (completeRead t) := by
  obtain ⟨hunits, -⟩ := completeRead_always t
  exact h.leave (by rw [hunits]) (by rw [hunits])

theorem breakDetected (h : OneNotice t) : OneNotice (breakDetected t) := by
  obtain ⟨hunits, -⟩ := breakDetected_always t
  exact h.leave (by rw [hunits]) (by rw [hunits])

theorem frameCharacter {d : Byte} {p f : Bool} (h : OneNotice t) : OneNotice (frameCharacter d p f t) :=
  h.leave (by rw [frameCharacter_frame]) (by rw [frameCharacter_frame])

theorem codeCharacterEvent {p : CodePart} (h : OneNotice t) : OneNotice (codeCharacterEvent p t) := by
  unfold Machine.codeCharacterEvent
  refine .ite ?_ h
  cases p with
  | falls => exact h
  | ends c =>
    dsimp only
    unfold characterEnds
    split
    · exact h
    · exact .breakDetected h
    · exact .ite (.frameCharacter (.ite h h)) (.frameCharacter (.ite h h))

theorem codeBreakEvent (h : OneNotice t) : OneNotice (codeBreakEvent t) := by
  unfold Machine.codeBreakEvent
  refine .ite h (.ite ?_ h)
  split
  · exact .breakDetected h
  · exact .ite (.breakDetected h) h

theorem codeBreakEndEvent (h : OneNotice t) : OneNotice (codeBreakEndEvent t) := by
  unfold Machine.codeBreakEndEvent
  split <;> exact h

theorem codeLineHighEvent (h : OneNotice t) : OneNotice (codeLineHighEvent t) := .ite h (.ite h h)

theorem idleTimerEvent (h : OneNotice t) : OneNotice (idleTimerEvent t) := by
  unfold Machine.idleTimerEvent idleTimerExpires
  split
  · refine .ite ?_ h
    dsimp only
    split
    case h_2 => exact .completeRead h
    all_goals exact h
  · exact h

theorem triggerSentEvent {high : Bool} (h : OneNotice t) : OneNotice (triggerSentEvent high t) := by
  unfold Machine.triggerSentEvent
  split
  · exact .ite h h
  · exact h

theorem storeCodeEnable {on : Bool} (h : OneNotice t) : OneNotice (storeCodeEnable on t) := by
  have ha : OneNotice (abandonRead t) := .ite h h
  exact .ite h (.ite h ha)

/-! ### Dose Regulator -/

theorem captureBase {v d : Nat} (h : OneNotice t) : OneNotice (captureBase v d t) := .ite h h

theorem startTrimExchange {v : Nat} {x : Int} (h : OneNotice t) : OneNotice (startTrimExchange v x t) := by
  unfold Machine.startTrimExchange
  split <;> rename_i e <;> exact (h.appendUrgent e :)

theorem startLockout {v : Nat} (h : OneNotice t) : OneNotice (startLockout v t) := by
  unfold Machine.startLockout
  split <;> rename_i e <;> exact (h.appendUrgent e :)

theorem enterWeight {p : Product} {r : CanRecord} (h : OneNotice t) : OneNotice (enterWeight p r t) := by
  unfold Machine.enterWeight evaluateWindow
  split
  · exact h
  · exact .ite (.ite h (.ite h (.startTrimExchange h))) h

theorem gateHandOff {r : CanRecord} (h : OneNotice t) : OneNotice (gateHandOff r t) := by
  unfold Machine.gateHandOff
  refine .ite h ?_
  dsimp only
  split
  · exact h
  · exact .enterWeight (.ite (.startLockout h) h)

theorem takeAck {k g v x : Byte} (h : OneNotice t) : OneNotice (takeAck k g v x t) := by
  have accepted (op : ExchangeOp) : OneNotice (ackAccepted op v.toNat t) := by
    cases op with
    | dose | on => exact h
    | off => exact .raise h
  unfold Machine.takeAck
  split
  · exact h
  · exact .ite h (.ite (.ite (.ite (accepted _) (.raise h)) h) (.ite h h))

theorem exchangeTimeoutEvent {v : Nat} (h : OneNotice t) : OneNotice (exchangeTimeoutEvent v t) := by
  unfold Machine.exchangeTimeoutEvent
  split
  · exact .raise h
  · exact h

theorem productChange {p : Nat} (h : OneNotice t) : OneNotice (productChange p t) := by
  rw [productChange_eq]
  exact .raise h

theorem selectProduct {c : BitVec 16} (h : OneNotice t) : OneNotice (selectProduct c t).2 := by
  unfold Machine.selectProduct
  split
  · exact h
  · split
    · exact h
    · exact .productChange h

theorem snoopedProduct {c : BitVec 16} (h : OneNotice t) : OneNotice (snoopedProduct c t) := by
  unfold Machine.snoopedProduct
  split
  · exact .raise h
  · exact .ite h (.productChange h)

theorem releaseValve {v : Nat} (h : OneNotice t) : OneNotice (releaseValve v t).2 := by
  unfold Machine.releaseValve
  rcases appendUrgent_cases (valveFrame t .on v) t with ⟨e, -⟩ | ⟨e, -⟩ <;> rw [e] <;> split_ifs <;> exact h

theorem clearValve {v : Nat} (h : OneNotice t) : OneNotice (clearValve v t).2 := by
  unfold Machine.clearValve
  split_ifs <;> exact h

/-! ### Verdict Unit -/

theorem gateDecision {n : Serial} (h : OneNotice t) : OneNotice (gateDecision n t) := by
  unfold Machine.gateDecision
  split
  · exact h
  · extract_lets rs v r' written pulsed handed
    have hp : OneNotice pulsed := .ite (.ite h h) h
    exact (OneNotice.ite (.gateHandOff hp) hp : OneNotice handed)

theorem confirmAt {e : Count} (h : OneNotice t) : OneNotice (confirmAt e t) := by
  unfold Machine.confirmAt
  split
  · exact h
  · split <;> exact h

theorem confirmCheck {n : Serial} (h : OneNotice t) : OneNotice (confirmCheck n t) := by
  unfold Machine.confirmCheck
  split
  · exact h
  · extract_lets seen u
    have hu : OneNotice u := .ite h h
    split
    · exact .postCause hu
    · exact hu
    · exact hu
    · exact .raise hu

theorem rejectPulseEvent (h : OneNotice t) : OneNotice (rejectPulseEvent t) := by
  unfold Machine.rejectPulseEvent
  split <;> exact h

/-! ### Weighing Engine -/

theorem finishWindow {n : Serial} {q : Quality} {k : Nat} {x : Int} {b : Bool} (h : OneNotice t) :
    OneNotice (finishWindow n q k x b t) := by
  obtain ⟨c, w, e⟩ := finishWindow_eq n q k x b t
  rw [e]
  exact h

theorem endWindowAtOnce (h : OneNotice t) : OneNotice (endWindowAtOnce t) := by
  unfold Machine.endWindowAtOnce
  split
  · exact h
  · exact .finishWindow h
  · exact .finishWindow h

theorem dropCapture (h : OneNotice t) : OneNotice (dropCapture t) := .ite h h

theorem engineArrival {n : Serial} (h : OneNotice t) : OneNotice (engineArrival n t) := by
  unfold Machine.engineArrival
  refine .ite (.appendReply (.dropCapture h)) ?_
  split
  · exact h
  · exact .endWindowAtOnce h

theorem engineUntracked (h : OneNotice t) : OneNotice (engineUntracked t) :=
  .ite (.appendReply (.dropCapture h)) (.endWindowAtOnce h)

theorem engineOpen (h : OneNotice t) : OneNotice (engineOpen t) := by
  unfold Machine.engineOpen
  split <;> exact h

theorem engineClose (h : OneNotice t) : OneNotice (engineClose t) := by
  unfold Machine.engineClose
  split
  · exact .finishWindow h
  · exact h

theorem trackingSample {x : Int} (h : OneNotice t) : OneNotice (trackingSample x t) :=
  .ite h (.ite (.ite h (.ite h (.raise h))) h)

theorem deliverSample {x : Int} {b : Bool} (h : OneNotice t) : OneNotice (deliverSample x b t) := by
  have hd : OneNotice (if b then discardTracking t else t) := .ite h h
  unfold Machine.deliverSample
  dsimp only
  split
  · exact hd
  · refine .ite hd ?_
    split
    · exact .ite hd (.appendReply hd)
    · exact .ite (.trackingSample hd) hd

theorem completeSampleFrame {w : BitVec 32} (h : OneNotice t) : OneNotice (completeSampleFrame w t) := by
  have hr {b : Bool} {u : State} (hu : OneNotice u) : OneNotice (restartLossTimer b u) := .ite (.raise hu) hu
  exact .deliverSample (hr (.ite h h))

theorem shortFrameEvent (h : OneNotice t) : OneNotice (shortFrameEvent t) := by
  unfold Machine.shortFrameEvent
  split <;> exact h

theorem sampleFrameEvent {p : SamplePart} (h : OneNotice t) : OneNotice (sampleFrameEvent p t) := by
  cases p with
  | sync =>
    show OneNotice (sampleSync t)
    unfold sampleSync
    split
    · exact h
    · exact .shortFrameEvent h
  | clk b =>
    show OneNotice (sampleClock b t)
    rcases sampleClock_cases b t with ⟨-, e⟩ | ⟨bits, -, ⟨-, e⟩ | ⟨-, e⟩⟩ <;> rw [e]
    · exact h
    · exact h
    · exact .completeSampleFrame h
  | frame w =>
    show OneNotice (wholeSampleFrame w t)
    unfold wholeSampleFrame
    split
    · exact .completeSampleFrame h
    · exact .completeSampleFrame h
    · exact .completeSampleFrame (.shortFrameEvent h)

theorem lossExpiry (h : OneNotice t) : OneNotice (lossExpiry t) := by
  refine .ite h (.raise ?_)
  unfold faultOpenWindow
  split
  · exact .ite h h
  · exact h

theorem sampleLossEvent (h : OneNotice t) : OneNotice (sampleLossEvent t) := by
  unfold Machine.sampleLossEvent
  split
  · exact .lossExpiry h
  · exact h

theorem storeSampleRate {r : Nat} (h : OneNotice t) : OneNotice (storeSampleRate r t) := by
  unfold Machine.storeSampleRate
  dsimp only
  split
  · exact .ite (.lossExpiry h) h
  · exact h

/-! ### Tracking Unit -/

theorem trackDischarge {v : Nat} {b : Bool} (h : OneNotice t) : OneNotice (trackDischarge v b t) := by
  unfold Machine.trackDischarge
  split
  · exact h
  · exact .ite (.ite h (.raise h)) h

theorem becomeOwner {n : Serial} {e : Count} (h : OneNotice t) : OneNotice (becomeOwner n e t) :=
  .ite (.engineOpen (.engineArrival h)) (.engineArrival h)

theorem ownerPoints {n : Serial} (h : OneNotice t) : OneNotice (ownerPoints n t) := by
  unfold Machine.ownerPoints
  extract_lets u
  have hu : OneNotice u := by
    unfold u
    split
    · exact .ite (.engineOpen h) h
    · exact h
  split
  · exact .ite (.engineClose hu) hu
  · exact hu

theorem trackArrival {e : Count} (h : OneNotice t) : OneNotice (trackArrival e t) := by
  unfold Machine.trackArrival
  split
  · exact h
  · split
    · exact .becomeOwner h
    · exact .ite (.becomeOwner (.raise h)) (.engineUntracked (.raise (.postCause h)))

theorem takePoint {n : Serial} {p : PointsPassed → Bool} {m : PointsPassed → PointsPassed}
    {q : CanRecord → Option Count} {act : State → State} (h : OneNotice t)
    (ha : ∀ {t}, OneNotice t → OneNotice (act t)) : OneNotice (takePoint n p m q act t) := by
  unfold Machine.takePoint
  split
  · exact h
  · split
    · exact h
    · exact .ite (ha h) h

theorem eyeClose {n : Serial} (h : OneNotice t) : OneNotice (eyeClose n t) := by
  have hl {u : State} (hu : OneNotice u) : OneNotice (lostRunLoss u) := .ite (.postCause hu) hu
  unfold Machine.eyeClose loseRecord
  split
  · exact h
  · refine .ite ?_ h
    split
    · exact h
    · exact hl (.canReport (.raise h))

theorem exitRecord {n : Serial} (h : OneNotice t) : OneNotice (exitRecord n t) := by
  have hc : OneNotice (Machine.confirmCheck n t) := .confirmCheck h
  unfold Machine.exitRecord
  dsimp only
  split
  · exact hc
  · exact .canReport hc

theorem recordPoints {n : Serial} (h : OneNotice t) : OneNotice (recordPoints t n) := by
  unfold Machine.recordPoints
  extract_lets afterPrint afterTrigger afterReader afterEye afterOwner afterGate
  have hPrint : OneNotice afterPrint := .takePoint h .printPoint
  have hTrigger : OneNotice afterTrigger := .takePoint hPrint .triggerPoint
  have hReader : OneNotice afterReader := .takePoint hTrigger id
  have hEye : OneNotice afterEye := .takePoint hReader .eyeClose
  have hOwner : OneNotice afterOwner := .ownerPoints hEye
  have hGate : OneNotice afterGate := .takePoint hOwner .gateDecision
  exact .takePoint hGate .exitRecord

theorem positionEvent {d : Direction} (h : OneNotice t) : OneNotice (positionEvent d t) := by
  unfold Machine.positionEvent
  split
  · exact h.foldl .recordPoints
  · exact h

theorem startLine (h : OneNotice t) : OneNotice (startLine t).2 := by
  unfold Machine.startLine
  split
  · exact h
  · split
    · exact h
    · exact .raise h

theorem stopLine (h : OneNotice t) : OneNotice (stopLine t) := by
  cases hl : t.track.line with
  | idle => rwa [stopLine_idle hl]
  | run =>
    rw [stopLine_run hl]
    exact .raise h

/-! ### Input Unit -/

theorem deliverEdge {i : Input} {b : Bool} (h : OneNotice t) : OneNotice (deliverEdge i b t) := by
  unfold Machine.deliverEdge
  split
  · rw [dischargeEdge_eq, lagDecrement_frame]
    exact trackDischarge (t := discharged t) h
  · exact .ite h (.ite (.raise h) h)
  · exact .trackArrival h
  · exact .confirmAt h
  · exact h

theorem acceptInput {i : Input} (h : OneNotice t) : OneNotice (acceptInput i t) := .deliverEdge h

theorem inputPinEvent {i : Input} {b : Bool} (h : OneNotice t) : OneNotice (inputPinEvent i b t) := by
  unfold Machine.inputPinEvent
  refine .ite h ?_
  dsimp only
  split
  · exact .ite (.acceptInput h) h
  · exact h

theorem holdTimerEvent {i : Input} {b : Bool} (h : OneNotice t) : OneNotice (holdTimerEvent i b t) := by
  unfold Machine.holdTimerEvent
  dsimp only
  split
  · exact .ite (.acceptInput h) h
  · exact h

theorem countStep (h : OneNotice t) : OneNotice (countStep t).2 :=
  h.leave (by rw [countStep_frame]) (by rw [countStep_frame])

theorem deliverStep {d : Option Direction} (h : OneNotice t) : OneNotice (deliverStep d t) := by
  cases d with
  | some d => exact .positionEvent h
  | none => exact .raise h

theorem acceptPair (h : OneNotice t) : OneNotice (acceptPair t) := .deliverStep (.countStep h)

theorem encoderPinEvent {a b : Bool} (h : OneNotice t) : OneNotice (encoderPinEvent a b t) :=
  .ite h (.ite h (.ite (.acceptPair h) h))

theorem encoderStepEvent (h : OneNotice t) : OneNotice (encoderStepEvent t) := by
  unfold Machine.encoderStepEvent
  split
  · exact .acceptPair h
  · exact h

theorem arrivalEvent {b : Bool} (h : OneNotice t) : OneNotice (arrivalEvent b t) := by
  refine .ite ?_ (.holdTimerEvent h)
  unfold arrivalWithStep
  split
  · exact .ite (.deliverStep (.acceptInput (.countStep h))) h
  · exact h

theorem storeFilterTime {w : FilterInput} {n : Nat} (h : OneNotice t) : OneNotice (storeFilterTime w n t) := by
  cases w with
  | discrete i =>
    show OneNotice (storeInputTime i n t)
    unfold storeInputTime
    dsimp only
    split
    · exact .ite (.acceptInput h) h
    · exact h
  | encoder =>
    show OneNotice (storeEncoderTime n t)
    unfold storeEncoderTime
    dsimp only
    split
    · exact .ite (.acceptPair h) h
    · exact h

/-! ### Tables (R186) -/

theorem writeTable {id : Nat} {refuse : List Entry → State → Option Refused} {store : List Entry → State → State}
    {first count : Byte} {d : List Byte} (h : OneNotice t) (hs : ∀ {es}, OneNotice (store es t)) :
    OneNotice (writeTable id refuse store first count d t) := by
  cases ht : tableShape id with
  | none =>
    simp only [Machine.writeTable, ht]
    exact .appendReply h
  | some shape =>
    rcases writeTable_cases id refuse store first count d t shape ht with ⟨st, x, e⟩ | ⟨-, e⟩ <;> rw [e]
    · exact .appendReply h
    · exact .appendReply hs

theorem storeSetting {e : Entry} (h : OneNotice t) : OneNotice (storeSetting e t) := by
  unfold Machine.storeSetting
  dsimp only
  split
  case h_1 => exact .ite h h
  case h_8 => exact .storeSampleRate h
  case h_17 => exact .storeCodeEnable h
  case h_2 | h_3 | h_4 | h_5 | h_6 | h_7 => exact .storeFilterTime h
  all_goals exact h

theorem storeMode {v : Nat} {b : Byte} (h : OneNotice t) : OneNotice (storeMode v b t) := by
  unfold Machine.storeMode
  split <;> exact h

theorem writeStations {a b : Byte} {d : List Byte} (h : OneNotice t) : OneNotice (writeStations a b d t) :=
  .writeTable h h

theorem writeSettings {a b : Byte} {d : List Byte} (h : OneNotice t) : OneNotice (writeSettings a b d t) :=
  .writeTable h (h.foldl .storeSetting)

theorem writeDistances {a b : Byte} {d : List Byte} (h : OneNotice t) : OneNotice (writeDistances a b d t) :=
  .writeTable h h

theorem writeRules {a b : Byte} {d : List Byte} (h : OneNotice t) : OneNotice (writeRules a b d t) :=
  .writeTable h (h.foldl id)

theorem writeProducts {a b : Byte} {d : List Byte} (h : OneNotice t) : OneNotice (writeProducts a b d t) :=
  .writeTable h h

theorem writeModes {a b : Byte} {d : List Byte} (h : OneNotice t) : OneNotice (writeModes a b d t) :=
  .writeTable h (h.foldl .storeMode)

theorem writeTestWeights {a b : Byte} {d : List Byte} (h : OneNotice t) : OneNotice (writeTestWeights a b d t) :=
  .writeTable h h

theorem writeEvents {a b : Byte} {d : List Byte} (h : OneNotice t) : OneNotice (writeEvents a b d t) :=
  .writeTable h h

theorem performTableWrite {d : List Byte} (h : OneNotice t) : OneNotice (performTableWrite d t) := by
  unfold Machine.performTableWrite
  split
  · split
    · exact .writeStations h
    · exact .writeSettings h
    · exact .writeDistances h
    · exact .writeRules h
    · exact .writeProducts h
    · exact .writeModes h
    · exact .writeTestWeights h
    · exact .writeEvents h
    · exact .appendReply h
  · exact .appendReply h

/-! ### Management Unit -/

theorem takeRequest {src k : Byte} {perform : State → State} (h : OneNotice t)
    (hp : ∀ {t}, OneNotice t → OneNotice (perform t)) : OneNotice (takeRequest src k perform t) :=
  .ite h (.ite (hp h) (.ite (.appendReply h) h))

theorem unknownKindEvent {k : Byte} (h : OneNotice t) : OneNotice (unknownKindEvent k t) := .ite h (.appendReply h)

theorem performIdentify {d : List Byte} (h : OneNotice t) : OneNotice (performIdentify d t) :=
  .ite (.appendReply h) (.appendReply h)

theorem performTableRead {d : List Byte} (h : OneNotice t) : OneNotice (performTableRead d t) := .appendReply h

theorem actZero (h : OneNotice t) : OneNotice (actZero t) := by
  unfold Machine.actZero
  split
  · exact .appendReply h
  · exact h

theorem actTestOn (h : OneNotice t) : OneNotice (actTestOn t) := by
  refine .appendReply ?_
  unfold testModeOn
  split_ifs <;> exact h

theorem performCode {c : Byte} {d : List Byte} (h : OneNotice t) : OneNotice (performCode c d t) := by
  unfold Machine.performCode
  split
  case h_1 => exact .appendReply (.startLine h)
  case h_2 => exact .appendReply (.stopLine h)
  case h_3 => exact .lineReset appendsReplies_lineReset t
  case h_4 => exact .appendReply (.selectProduct h)
  case h_5 => exact .actZero h
  case h_8 => exact .appendReply (.releaseValve h)
  case h_9 => exact .appendReply (.clearValve h)
  case h_10 => exact .actTestOn h
  case h_13 => exact .appendReply (.postCause h)
  case h_6 | h_7 | h_11 | h_12 => exact .appendReply h

theorem performAction {d : List Byte} (h : OneNotice t) : OneNotice (performAction d t) := by
  unfold Machine.performAction
  split
  · exact .appendReply h
  · split
    · exact .appendReply h
    · exact .ite (.performCode h) (.appendReply h)

theorem manageFrame {src k : Byte} {d : List Byte} (h : OneNotice t) : OneNotice (manageFrame src k d t) :=
  .ite (.takeRequest h .performTableRead) (.ite (.takeRequest h .performTableWrite)
    (.ite (.takeRequest h .performAction) (.takeRequest h .performIdentify)))

/-! ### Pass Stage -/

theorem addressedFrame {f : List Byte} (h : OneNotice t) : OneNotice (addressedFrame f t) :=
  .ite (.ite (.takeAck h) h) (.ite (.manageFrame h) (.ite (.unknownKindEvent h) h))

theorem snoopCopy {f : List Byte} (h : OneNotice t) : OneNotice (snoopCopy f t) := .ite (.ite (.snoopedProduct h) h) h

theorem rewritePair {p : List Byte} (h : OneNotice t) : OneNotice (rewritePair p t).2 := by
  unfold Machine.rewritePair
  dsimp only
  split
  · exact .captureBase h
  · exact h

theorem rewritePairs {ps : List (List Byte)} (h : OneNotice t) : OneNotice (rewritePairs ps t).2 := by
  induction ps generalizing t with
  | nil => exact h
  | cons p ps ih => exact ih (.rewritePair h)

theorem trimDecision {f : List Byte} (h : OneNotice t) : OneNotice (trimDecision f t) :=
  .ite (.sendOn h) (.ite (.sendOn (OneNotice.rewritePairs h :)) (.sendOn h))

theorem passFrame {f : List Byte} (h : OneNotice t) : OneNotice (passFrame f t) := by
  unfold Machine.passFrame
  refine .ite (.sendOn h) (.ite h (.ite (.addressedFrame h) ?_))
  split
  · exact .sendOn h
  · exact .sendOn h
  · exact h
  · exact .sendOn (.snoopCopy h)
  · exact .trimDecision h

/-! ### Ring Port -/

theorem completeFrame {f : List Byte} {b : Bool} (h : OneNotice t) : OneNotice (completeFrame f b t) :=
  .ite (.passFrame (.ite h h)) (.ringFault h)

theorem assemble {d : Byte} {mark sound noisy : Bool} (h : OneNotice t) :
    OneNotice (assemble d mark sound noisy t) := by
  unfold Machine.assemble
  split
  · exact .ite h h
  · exact .ite (.ringFault h) (.ite (ringFault (f := .truncated) h)
      (.ite (.ringFault h) (.ite (.completeFrame h) h)))
  · exact .ite h h

theorem falseStart (h : OneNotice t) : OneNotice (falseStart t) := by
  unfold Machine.falseStart
  dsimp only
  split <;> exact h

theorem ringBreakDetected (h : OneNotice t) : OneNotice (ringBreakDetected t) := by
  have hr {u : State} (hu : OneNotice u) : OneNotice (requestRelay u) := by
    rw [requestRelay_frame]
    exact hu
  unfold Machine.ringBreakDetected
  exact hr (.ite (.ringFault h) h)

theorem ringBreakEvent (h : OneNotice t) : OneNotice (ringBreakEvent t) := .ite h (.ringBreakDetected h)

theorem ringCharacterEvent {c : RingSamples} (h : OneNotice t) : OneNotice (ringCharacterEvent c t) := by
  unfold Machine.ringCharacterEvent
  refine .ite h ?_
  split
  · exact .falseStart h
  · exact .ringBreakDetected h
  · exact .assemble h

theorem falseStartEvent (h : OneNotice t) : OneNotice (falseStartEvent t) := .ite h (.falseStart h)

theorem frameCompleteEvent {d : Byte} {b : Bool} (h : OneNotice t) : OneNotice (frameCompleteEvent d b t) := by
  unfold Machine.frameCompleteEvent
  split
  · exact .ite (.completeFrame h) h
  all_goals exact h

theorem breakEnds {start len : Nat} (h : OneNotice t) : OneNotice (breakEnds start len t) := by
  rw [breakEnds_eq, recordBreak_frame]
  exact h

theorem resyncEvent {len : Nat} (h : OneNotice t) : OneNotice (resyncEvent len t) := by
  unfold Machine.resyncEvent
  split
  · exact .ite (.breakEnds h) h
  · exact h

theorem longBreakEvent (h : OneNotice t) : OneNotice (longBreakEvent t) := by
  unfold Machine.longBreakEvent
  split
  · exact .lineReset appendsReplies_none _
  · exact h

theorem longBreakEndEvent {len : Nat} (h : OneNotice t) : OneNotice (longBreakEndEvent len t) := by
  unfold Machine.longBreakEndEvent
  split
  · exact .breakEnds h
  · exact h

theorem interCharacterEvent {low : Ticks} (h : OneNotice t) : OneNotice (interCharacterEvent low t) := by
  unfold Machine.interCharacterEvent
  refine .ite h ?_
  dsimp only
  split
  · exact .ringFault h
  · exact h
  · exact h

theorem gapEvent (h : OneNotice t) : OneNotice (gapEvent t) := by
  unfold Machine.gapEvent
  split <;> exact h

theorem frameSentEvent (h : OneNotice t) : OneNotice (frameSentEvent t) := by
  unfold Machine.frameSentEvent
  split
  · exact .ite h h
  · exact h

theorem relayEndEvent (h : OneNotice t) : OneNotice (relayEndEvent t) := by
  unfold Machine.relayEndEvent
  split
  · exact .ite h h
  · exact h

/-! ### Every command -/

/-- The frame around an event keeps what the event keeps. -/
theorem event {f : State → State} (h : OneNotice s) (hf : ∀ {t}, OneNotice t → OneNotice (f t))
    (e : event f s = .next t) : OneNotice t := by
  unfold Machine.event at e
  split at e <;> cases e
  · exact h
  · exact .arbitrate (hf h)

/-- A request keeps what its performance keeps. -/
theorem request {src k : Byte} {perform : State → State} (h : OneNotice s)
    (hp : ∀ {t}, OneNotice t → OneNotice (perform t))
    (e : Machine.event (Machine.takeRequest src k perform) s = .next t) : OneNotice t :=
  h.event (fun h => .takeRequest h hp) e

theorem resetAsserted (h : OneNotice s) (e : execResetAsserted s = .next t) : OneNotice t := by
  unfold execResetAsserted at e
  split at e <;> cases e <;> exact h

/-- Every command keeps one NOTICE at most. -/
theorem exec (h : OneNotice s) (c : Instr) (e : exec c s = .next t) : OneNotice t := by
  cases c with
  | hardReset p =>
    cases e
    exact of_none rfl
  | resetAsserted => exact h.resetAsserted e
  | ringCharacter => exact h.event .ringCharacterEvent e
  | frameComplete => exact h.event .frameCompleteEvent e
  | interCharacterTimeout => exact h.event .interCharacterEvent e
  | ringBreak => exact h.event .ringBreakEvent e
  | resync => exact h.event .resyncEvent e
  | longBreak => exact h.event .longBreakEvent e
  | longBreakEnd => exact h.event .longBreakEndEvent e
  | gap => exact h.event .gapEvent e
  | frameSent => exact h.event .frameSentEvent e
  | relayEnd => exact h.event .relayEndEvent e
  | noticeRetry => exact h.event .noticeRetryEvent e
  | ringFalseStart => exact h.event .falseStartEvent e
  | inputPinChange => exact h.event .inputPinEvent e
  | discharge | homeEdge | confirmEvent | pocketChange | acceptedFallingEdge => exact h.event .holdTimerEvent e
  | arrival => exact h.event .arrivalEvent e
  | encoderPinChange => exact h.event .encoderPinEvent e
  | encoderStep => exact h.event .encoderStepEvent e
  | sampleFrame => exact h.event .sampleFrameEvent e
  | shortFrame => exact h.event .shortFrameEvent e
  | sampleLoss => exact h.event .sampleLossEvent e
  | codeCharacter => exact h.event .codeCharacterEvent e
  | codeBreak => exact h.event .codeBreakEvent e
  | codeBreakEnd => exact h.event .codeBreakEndEvent e
  | codeLineHigh => exact h.event .codeLineHighEvent e
  | idleTimerExpiry => exact h.event .idleTimerEvent e
  | triggerSent => exact h.event .triggerSentEvent e
  | exchangeTimeout => exact h.event (fun h => .ite (.exchangeTimeoutEvent h) h) e
  | rejectPulseExpiry => exact h.event .rejectPulseEvent e
  | fillAck => exact h.event (fun h => .ite h (.takeAck h)) e
  | unknownKindRequest => exact h.event .unknownKindEvent e
  | identify => exact h.request .performIdentify e
  | tableRead => exact h.request .performTableRead e
  | stationsWrite => exact h.request .writeStations e
  | distancesWrite => exact h.request .writeDistances e
  | passRulesWrite => exact h.request .writeRules e
  | productsWrite => exact h.request .writeProducts e
  | valveModeWrite => exact h.request .writeModes e
  | testWeightsWrite => exact h.request .writeTestWeights e
  | eventsWrite => exact h.request .writeEvents e
  | settingsWrite | valveCountWrite | filterTimeWrite | sampleRateWrite | weighingSettingsWrite
  | calibrationFactorWrite | lotStringWrite | codePortConfigWrite | codePortEnable => exact h.request .writeSettings e
  | start => exact h.request (fun h => .appendReply (.startLine h)) e
  | stop => exact h.request (fun h => .appendReply (.stopLine h)) e
  | lineResetAction => exact h.request (fun _ => .lineReset appendsReplies_lineReset _) e
  | selectProduct => exact h.request (fun h => .appendReply (.selectProduct h)) e
  | zero => exact h.request .actZero e
  | clearStop => exact h.request (perform := actClearStop) (fun h => .appendReply h) e
  | clearEvents _ set => exact h.request (perform := actClearEvents set) (fun h => .appendReply h) e
  | valveRelease => exact h.request (fun h => .appendReply (.releaseValve h)) e
  | valveClear => exact h.request (fun h => .appendReply (.clearValve h)) e
  | testOn => exact h.request .actTestOn e
  | testOff => exact h.request (perform := actTestOff) (fun h => .appendReply h) e
  | clearCounters => exact h.request (perform := actClearCounters) (fun h => .appendReply h) e
  | stopRequest => exact h.request (fun h => .appendReply (.postCause h)) e
  | badTableWrite => exact h.request .performTableWrite e
  | unknownActionCode => exact h.request .performAction e

/-- Every step keeps one NOTICE at most. -/
theorem step (h : OneNotice s) (e : step s = .next t) : OneNotice t := by
  unfold Machine.step at e
  split at e
  · rename_i c rest _
    have hc : OneNotice { s with pending := rest } := h
    exact hc.exec c e
  · cases e
    exact h

end OneNotice

/-- Settles O59: a NOTICE joins the queue or becomes pending only where none waits and none is pending, at a retry where one
is pending, or after the queue is emptied. -/
theorem oneNoticeAtMost : Obligations.OneNoticeAtMost := fun _ _ hs e => hs.step e

end Sys2Proof.Machine
end

section
/-! PROOFS. What a request is answered: unknown kinds, IDENTIFY, TABLE READ, the refusals of TABLE WRITE and ACTION by
their payload, and other sources (R182, R183, R185, R186, R189, R196): O47. -/

namespace Sys2Proof.Machine

/-! ## A run of indices (R185, R186) -/

section
variable {t : TableShape} {first count : Nat}

theorem outside_first (h : first < t.first ∨ t.last < first) : t.outside first count = some first := by
  simp [TableShape.outside, h]

theorem outside_last (hlo : t.first ≤ first) (hhi : first ≤ t.last) (h : t.last < first + count - 1) :
    t.outside first count = some (t.last + 1) := by
  simp [TableShape.outside, Nat.not_lt.mpr hlo, Nat.not_lt.mpr hhi, h]

theorem outside_none (hlo : t.first ≤ first) (hhi : first ≤ t.last) (h : first + count - 1 ≤ t.last) :
    t.outside first count = none := by
  simp [TableShape.outside, Nat.not_lt.mpr hlo, Nat.not_lt.mpr hhi, Nat.not_lt.mpr h]

end

/-! ## TABLE READ (R185) -/

theorem tableReadAnswer_short {data : List Byte} (h : data.length < 3) (s : State) :
    tableReadAnswer s data = ⟨.badLength, 0, [0, 0, 0]⟩ := by
  match data, h with
  | [], _ | [_], _ | [_, _], _ => rfl

section
variable {s : State} {id first count : Byte} {t : TableShape}

theorem readTable_unknown (h : tableShape id.toNat = none) :
    readTable s id first count = ⟨.badTable, 0, [id, first, count]⟩ := by
  simp only [readTable, h]

/-- The count that a read cannot answer (R185, test 3). -/
theorem readTooLong_iff {n : Nat} : (count == 0 || decide (Config.readBytes < n)) = true ↔ count = 0 ∨ 50 < n := by
  rw [Bool.or_eq_true, beq_iff_eq, decide_eq_true_iff]
  rfl

theorem readTable_badLength (ht : tableShape id.toNat = some t) (h : count = 0 ∨ 50 < count.toNat * t.readSize) :
    readTable s id first count = ⟨.badLength, 0, [id, first, count]⟩ := by
  simp only [readTable, ht]
  exact if_pos (readTooLong_iff.mpr h)

/-- A read of a count that its table can answer, and an index outside the table. -/
theorem readTable_badIndex (ht : tableShape id.toNat = some t) (hc : count ≠ 0) (hl : count.toNat * t.readSize ≤ 50)
    {i : Nat} (hi : t.outside first.toNat count.toNat = some i) :
    readTable s id first count = ⟨.badIndex, BitVec.ofNat 8 i, [id, first, count]⟩ := by
  simp only [readTable, ht, hi]
  exact if_neg (mt readTooLong_iff.mp (not_or.mpr ⟨hc, Nat.not_lt.mpr hl⟩))

theorem readTable_ok (ht : tableShape id.toNat = some t) (hc : count ≠ 0) (hl : count.toNat * t.readSize ≤ 50)
    (hi : t.outside first.toNat count.toNat = none) :
    readTable s id first count =
      ⟨.ok, 0, [id, first, count] ++ readEntries s id.toNat first.toNat count.toNat⟩ := by
  simp only [readTable, ht, hi]
  exact if_neg (mt readTooLong_iff.mp (not_or.mpr ⟨hc, Nat.not_lt.mpr hl⟩))

/-- The supervisor's TABLE READ is answered on the state that counts it (R183, R185, log 29). -/
theorem taken_tableRead {data : List Byte} {a : Answer} (h : Listening s) (ha : tableReadAnswer (counted s) data = a) :
    Taken (.tableRead 0 data) s (appendReply 0 0x30 a (counted s)) :=
  taken_of_request (perform := performTableRead data) rfl h (ha ▸ rfl)

end

/-! ## The refusals of a TABLE WRITE (R186) -/

section
variable {id first count : Byte} {refuse : List Entry → State → Option Refused}
  {store : List Entry → State → State} {data : List Byte} {t : TableShape} {s : State}

theorem writeTable_badLength (ht : tableShape id.toNat = some t)
    (h : count = 0 ∨ data.length ≠ count.toNat * t.writeSize) :
    writeTable id.toNat refuse store first count data s = refusedReply .badLength 0 id first count s := by
  simp only [writeTable, ht, BitVec.ofNat_toNat, BitVec.setWidth_eq]
  exact if_pos (by simpa using h)

/-- A write with the data of its count, and an index outside its table. -/
theorem writeTable_badIndex (ht : tableShape id.toNat = some t) (hc : count ≠ 0)
    (hl : data.length = count.toNat * t.writeSize) {i : Nat} (hi : t.outside first.toNat count.toNat = some i) :
    writeTable id.toNat refuse store first count data s =
      refusedReply .badIndex (BitVec.ofNat 8 i) id first count s := by
  simp only [writeTable, ht, hi, BitVec.ofNat_toNat, BitVec.setWidth_eq]
  exact if_neg (by simpa [hl] using hc)

end

/-- Each command that writes a run of a table's entries is a TABLE WRITE to its table. -/
theorem exec_eq_writeTable {id : Byte} {write : Byte → Byte → Byte → List Byte → Instr}
    (h : (id, write) ∈ [((1 : Byte), Instr.stationsWrite), (2, .settingsWrite), (3, .distancesWrite),
      (4, .passRulesWrite), (5, .productsWrite), (6, .valveModeWrite), (7, .testWeightsWrite), (10, .eventsWrite)]) :
    ∃ refuse store, ∀ first count data s, exec (write 0 first count data) s =
      event (takeRequest 0 kindTableWrite (writeTable id.toNat refuse store first count data)) s := by
  simp only [List.mem_cons, Prod.mk.injEq, List.not_mem_nil, or_false] at h
  rcases h with ⟨rfl, rfl⟩ | ⟨rfl, rfl⟩ | ⟨rfl, rfl⟩ | ⟨rfl, rfl⟩ | ⟨rfl, rfl⟩ | ⟨rfl, rfl⟩ | ⟨rfl, rfl⟩ | ⟨rfl, rfl⟩ <;>
    exact ⟨_, _, fun _ _ _ _ => rfl⟩

theorem performTableWrite_short {data : List Byte} (h : data.length < 3) (s : State) :
    performTableWrite data s = appendReply 0 0x31 ⟨.badLength, 0, [0, 0, 0]⟩ s := by
  match data, h with
  | [], _ | [_], _ | [_, _], _ => rfl

/-- A table id outside the writable ones. -/
theorem performTableWrite_badTable {id first count : Byte} {rest : List Byte}
    (h : isBadTableWrite (id :: first :: count :: rest) = true) (s : State) :
    performTableWrite (id :: first :: count :: rest) s = appendReply 0 0x31 ⟨.badTable, 0, [id, first, count]⟩ s := by
  have hid : id.toNat = 0 ∨ 10 < id.toNat ∨ id.toNat = 8 ∨ id.toNat = 9 := by
    simpa [isBadTableWrite, or_assoc, Nat.not_lt.mpr (Nat.le_add_left 3 rest.length)] using h
  simp only [performTableWrite]
  split
  case h_9 => rfl
  all_goals omega

/-! ## The refusals of an ACTION (R189) -/

section
variable {code : Byte} {arg : List Byte} {s : State}

theorem performAction_unknown (h : actionArgumentLength code = none) :
    performAction (code :: arg) s = actionAnswer code .badValue 0 s := by
  simp only [performAction, h]
  rfl

theorem performAction_badLength {k : Nat} (h : actionArgumentLength code = some k) (hl : arg.length ≠ k) :
    performAction (code :: arg) s = actionAnswer code .badLength 0 s := by
  simp only [performAction, h]
  exact if_neg (by simpa using hl)

end

/-! ## Other sources (R183) -/

/-- Every request command hands a request of its kind, from its source, to the Management Unit. -/
theorem exec_eq_takeRequest {c : Instr} {src kind : Byte} (h : requestOf c = some (src, kind)) :
    ∃ perform, ∀ s, exec c s = event (takeRequest src kind perform) s := by
  cases c <;> cases h <;> exact ⟨_, fun _ => rfl⟩

/-- A request counted, and refused for its source. -/
def sourceRefused (s : State) : State :=
  { counted s with mgmt.counters.refusedSources := s.mgmt.counters.refusedSources + 1 }

section
variable {src kind : Byte} {perform : State → State} {s : State}

theorem takeRequest_refused (h : repeaterOnly s = false) (h0 : src ≠ 0) :
    takeRequest src kind perform s =
      if src.toNat < 63 then appendReply src kind ⟨.refusedSource, 0, []⟩ (sourceRefused s) else sourceRefused s := by
  simp only [takeRequest, h, Bool.false_eq_true, if_false, beq_iff_eq, h0]
  rfl

/-- A source of the ring is answered REFUSED_SOURCE; one above its stations is not answered. -/
theorem taken_refusedSource {c : Instr} (h : Listening s) (hc : requestOf c = some (src, kind)) (h0 : src ≠ 0) :
    (src.toNat ≤ 62 → Taken c s (appendReply src kind ⟨.refusedSource, 0, []⟩ (sourceRefused s)))
      ∧ (63 ≤ src.toNat → Taken c s (sourceRefused s)) := by
  obtain ⟨perform, he⟩ := exec_eq_takeRequest hc
  obtain ⟨hawake, hmember⟩ := h
  have hrefused := takeRequest_refused (kind := kind) (perform := perform) hmember h0
  refine ⟨fun hle => taken_of_event (he s) hawake ?_, fun hge => taken_of_event (he s) hawake ?_⟩
  · rw [hrefused, if_pos (Nat.lt_succ_of_le hle)]
  · rw [hrefused, if_neg (Nat.not_lt.mpr hge)]

end

/-- An unknown kind is counted as a request and as such. -/
theorem taken_unknownKind {s : State} (h : Listening s) (kind : Byte) : Taken (.unknownKindRequest kind) s
    (appendReply 0 kind ⟨.unknownKind, 0, []⟩
      { counted s with mgmt.counters.unknownKinds := s.mgmt.counters.unknownKinds + 1 }) := by
  obtain ⟨hawake, hmember⟩ := h
  refine taken_of_event rfl hawake ?_
  rw [unknownKindEvent, hmember]
  rfl

/-- Settles O47, request by request and each by its tests in their order. -/
theorem requestsAnswered : Obligations.RequestsAnswered := by
  intro s h
  have hbyte (b : Byte) : BitVec.ofNat 8 b.toNat = b := by rw [BitVec.ofNat_toNat, BitVec.setWidth_eq]
  refine ⟨taken_unknownKind h, ?identify, ?identifyLong, fun data hl => taken_tableRead h (tableReadAnswer_short hl _),
    fun id first count b rest => taken_tableRead h rfl,
    fun id first count ht => taken_tableRead h (readTable_unknown ht),
    fun id first count t ht hl => taken_tableRead h (readTable_badLength ht hl),
    fun id first count t ht hc hl => ⟨fun ho => ?readFirst, fun hlo hhi ho => ?readLast⟩,
    fun id first count t ht hc hl hlo hhi => ?read, fun id write t first count data hw ht => ?write,
    fun data hl => ?writeShort, fun id first count rest hb => ?writeUnknown, ?actionEmpty,
    fun code arg ha => ?actionUnknown, fun code arg k ha hl => ?actionLength,
    fun c src kind hc h0 => taken_refusedSource h hc h0⟩
  case identify => exact taken_of_request (perform := performIdentify []) rfl h rfl
  case identifyLong => exact fun b rest => taken_of_request (perform := performIdentify (b :: rest)) rfl h rfl
  case readFirst =>
    exact taken_tableRead h ((readTable_badIndex ht hc hl (outside_first ho)).trans (by rw [hbyte]))
  case readLast => exact taken_tableRead h (readTable_badIndex ht hc hl (outside_last hlo hhi ho))
  case read =>
    have h0 : count ≠ 0 := fun h0 => absurd (h0 ▸ hc) (by decide)
    exact taken_tableRead h (readTable_ok ht h0 hl (outside_none hlo (by omega) hhi))
  case write =>
    obtain ⟨refuse, store, he⟩ := exec_eq_writeTable hw
    refine ⟨fun hl => ?length, fun hc hl => ⟨fun ho => ?first, fun hlo hhi ho => ?last⟩⟩
    case length => exact taken_of_request (he ..) h (writeTable_badLength ht hl)
    case first =>
      exact taken_of_request (he ..) h ((writeTable_badIndex ht hc hl (outside_first ho)).trans (by rw [hbyte]))
    case last => exact taken_of_request (he ..) h (writeTable_badIndex ht hc hl (outside_last hlo hhi ho))
  case writeShort => exact taken_of_request (perform := performTableWrite data) rfl h (performTableWrite_short hl _)
  case writeUnknown => exact taken_of_request (perform := performTableWrite _) rfl h (performTableWrite_badTable hb _)
  case actionEmpty => exact taken_of_request (perform := performAction []) rfl h rfl
  case actionUnknown => exact taken_of_request (perform := performAction _) rfl h (performAction_unknown ha)
  case actionLength => exact taken_of_request (perform := performAction _) rfl h (performAction_badLength ha hl)

end Sys2Proof.Machine
end

section
/-! PROOFS. What every command keeps beside its own work: the commands that wait (log 25); and the step that takes the
front one, or lets a clock unit pass (log 2): O1 and O2. -/

namespace Sys2Proof.Machine

/-! ## Operations leave the waiting commands alone

For each operation `f` of the model, `f_pending` says so. Where an earlier lemma says all that `f` may touch, it is read
off from that. -/

section
variable (s : State)

/-! ### Queues and latches -/

@[simp] theorem appendUrgent_pending (f : OwnFrame) : (appendUrgent f s).2.pending = s.pending := by
  rcases appendUrgent_cases f s with ⟨h, -⟩ | ⟨h, -⟩ <;> rw [h]

@[simp] theorem queueNotice_pending : (queueNotice s).2.pending = s.pending := by
  unfold queueNotice
  rcases appendRoutine_cases .notice s with ⟨h, -⟩ | ⟨h, -⟩ <;> rw [h]

@[simp] theorem canReport_pending (lost : Bool) (r : CanRecord) : (canReport lost r s).pending = s.pending := by
  rw [canReport_frame]

@[simp] theorem ringFault_pending (f : RingFault) : (ringFault f s).pending = s.pending := by rw [ringFault_frame]

@[simp] theorem sendOn_pending (f : List Byte) : (sendOn f s).pending = s.pending := by
  unfold sendOn
  split <;> simp

/-! ### Code Unit -/

@[simp] theorem printPoint_pending (n : Serial) : (printPoint n s).pending = s.pending := by
  unfold printPoint
  split
  · rfl
  · rename_i r _
    rcases appendUrgent_cases (printFrame s r s.code.lot) s with ⟨h, -⟩ | ⟨h, -⟩ <;> simp [h]

@[simp] theorem triggerPoint_pending : (triggerPoint s).pending = s.pending := by
  unfold triggerPoint
  split <;> rfl

@[simp] theorem writeCode_pending (n : Serial) (x : CodeResult) : (writeCode n x s).pending = s.pending := rfl

@[simp] theorem assignOldest_pending (e : Count) (x : CodeResult) : (assignOldest e x s).2.pending = s.pending := by
  unfold assignOldest
  split <;> rfl

@[simp] theorem assignTagged_pending (e : Count) (t : List Byte) : (assignTagged e t s).2.pending = s.pending := by
  rw [assignTagged_eq]
  rfl

@[simp] theorem assignRead_pending (e : Count) (o : ReadOutcome) (t : List Byte) :
    (assignRead e o t s).2.pending = s.pending := by
  unfold assignRead
  split
  · rfl
  · split <;> simp

@[simp] theorem completeRead_pending : (completeRead s).pending = s.pending := by
  rw [completeRead_eq]
  exact assignRead_pending (readCounted s) ..

@[simp] theorem breakDetected_pending : (breakDetected s).pending = s.pending := by
  unfold breakDetected
  rw [abandonRead_eq]
  dsimp only
  split <;> simp

@[simp] theorem characterEnds_pending (c : CodeSamples) : (characterEnds c s).pending = s.pending := by
  cases h : receiveCode s.code.format c with
  | falseStart => rw [characterEnds_falseStart h]
  | lineBreak => rw [characterEnds_break h, breakDetected_pending]
  | character d p f n =>
    rw [characterEnds_character h, frameCharacter_frame]
    rfl

@[simp] theorem codeCharacterEvent_pending (p : CodePart) : (codeCharacterEvent p s).pending = s.pending := by
  unfold codeCharacterEvent
  split
  · split <;> simp
  · rfl

@[simp] theorem codeBreakEvent_pending : (codeBreakEvent s).pending = s.pending := by
  unfold codeBreakEvent
  split
  · rfl
  · split
    · split
      · simp
      · split <;> simp
    · rfl

@[simp] theorem codeBreakEndEvent_pending : (codeBreakEndEvent s).pending = s.pending := by
  unfold codeBreakEndEvent
  split <;> rfl

@[simp] theorem codeLineHighEvent_pending : (codeLineHighEvent s).pending = s.pending := by
  unfold codeLineHighEvent
  split_ifs <;> rfl

@[simp] theorem idleTimerEvent_pending : (idleTimerEvent s).pending = s.pending := by
  unfold idleTimerEvent idleTimerExpires
  split
  · split
    · dsimp only
      split <;> simp
    · rfl
  · rfl

@[simp] theorem triggerSentEvent_pending (high : Bool) : (triggerSentEvent high s).pending = s.pending := by
  unfold triggerSentEvent
  split
  · split <;> rfl
  · rfl

@[simp] theorem storeCodeEnable_pending (on : Bool) : (storeCodeEnable on s).pending = s.pending := by
  unfold storeCodeEnable
  rw [disablePort_eq]
  split_ifs <;> rfl

/-! ### Dose Regulator -/

@[simp] theorem captureBase_pending (v d : Nat) : (captureBase v d s).pending = s.pending := by
  unfold captureBase
  split <;> rfl

@[simp] theorem ackAccepted_pending (op : ExchangeOp) (v : Nat) : (ackAccepted op v s).pending = s.pending := by
  cases op with
  | dose | on => rfl
  | off => exact raise_pending ..

@[simp] theorem ackRefused_pending (v : Nat) : (ackRefused v s).pending = s.pending := raise_pending ..

@[simp] theorem takeAck_pending (k g v x : Byte) : (takeAck k g v x s).pending = s.pending := by
  unfold takeAck
  split
  · rfl
  · dsimp only
    split_ifs <;> simp

@[simp] theorem exchangeTimeoutEvent_pending (v : Nat) : (exchangeTimeoutEvent v s).pending = s.pending := by
  unfold exchangeTimeoutEvent
  split <;> simp

@[simp] theorem productChange_pending (p : Nat) : (productChange p s).pending = s.pending := by
  rw [productChange_eq, raise_pending]
  rfl

@[simp] theorem selectProduct_pending (c : BitVec 16) : (selectProduct c s).2.pending = s.pending := by
  unfold selectProduct
  split
  · rfl
  · split <;> simp

@[simp] theorem snoopedProduct_pending (c : BitVec 16) : (snoopedProduct c s).pending = s.pending := by
  unfold snoopedProduct
  split
  · simp
  · split <;> simp

@[simp] theorem releaseValve_pending (v : Nat) : (releaseValve v s).2.pending = s.pending := by
  unfold releaseValve
  rcases appendUrgent_cases (valveFrame s .on v) s with ⟨h, -⟩ | ⟨h, -⟩ <;> rw [h] <;> split_ifs <;> rfl

@[simp] theorem clearValve_pending (v : Nat) : (clearValve v s).2.pending = s.pending := by
  unfold clearValve
  split_ifs <;> rfl

@[simp] theorem storeValveCount_pending (n : Nat) : (storeValveCount n s).pending = s.pending := by
  unfold storeValveCount
  split <;> rfl

@[simp] theorem storeMode_pending (v : Nat) (b : Byte) : (storeMode v b s).pending = s.pending := by
  unfold storeMode
  split <;> rfl

/-! ### Verdict Unit -/

@[simp] theorem rejectPulseEvent_pending : (rejectPulseEvent s).pending = s.pending := by
  unfold rejectPulseEvent
  split <;> rfl

@[simp] theorem gateDecision_pending (n : Serial) : (gateDecision n s).pending = s.pending := by
  cases h : findRecord n s.track.queue with
  | none => simp only [gateDecision, h]
  | some r =>
    obtain ⟨c, he, -⟩ := gateDecision_units h
    rw [he]
    show (handedOff r s).pending = s.pending
    rw [(HandOffTouches.handedOff r s).frame]

@[simp] theorem postCause_pending (c : Cause) : (postCause c s).pending = s.pending := by
  rw [postCause_frame]
  rfl

@[simp] theorem lostRunLoss_pending : (lostRunLoss s).pending = s.pending := by rw [lostRunLoss_frame]

@[simp] theorem confirmAt_pending (e : Count) : (confirmAt e s).pending = s.pending := by
  unfold confirmAt
  split
  · rfl
  · split <;> rfl

@[simp] theorem confirmCheck_pending (n : Serial) : (confirmCheck n s).pending = s.pending := by
  cases h : findRecord n s.track.queue with
  | none => simp only [confirmCheck, h]
  | some r =>
    have hnoted : (confirmNoted n r s).pending = s.pending := by
      unfold confirmNoted
      split <;> rfl
    rw [confirmCheck_eq h]
    unfold confirmJudged
    split <;> simp [hnoted]

/-! ### Weighing Engine -/

theorem EngineTold.pending {s t : State} (h : EngineTold s t) : t.pending = s.pending := by rw [h.units]

@[simp] theorem deliverSample_pending (x : Int) (b : Bool) : (deliverSample x b s).pending = s.pending := by
  rw [(SampleDelivered.deliverSample x b s).units]

@[simp] theorem completeSampleFrame_pending (w : BitVec 32) : (completeSampleFrame w s).pending = s.pending := by
  rw [completeSampleFrame_eq, deliverSample_pending]
  unfold restartLossTimer
  dsimp only
  split <;> simp

@[simp] theorem shortFrameEvent_pending : (shortFrameEvent s).pending = s.pending := by
  rcases shortFrameEvent_cases s with ⟨-, h⟩ | ⟨-, h⟩ <;> rw [h]

@[simp] theorem sampleFrameEvent_pending (p : SamplePart) : (sampleFrameEvent p s).pending = s.pending := by
  cases p with
  | sync =>
    show (sampleSync s).pending = s.pending
    unfold sampleSync
    split <;> simp
  | clk data =>
    show (sampleClock data s).pending = s.pending
    rcases sampleClock_cases data s with ⟨-, h⟩ | ⟨bits, -, ⟨-, h⟩ | ⟨-, h⟩⟩ <;> simp [h]
  | frame w =>
    show (wholeSampleFrame w s).pending = s.pending
    unfold wholeSampleFrame
    split <;> simp

@[simp] theorem lossExpiry_pending : (lossExpiry s).pending = s.pending := by
  cases h : s.weigh.sampleLoss with
  | true => rw [lossExpiry_set h]
  | false =>
    rw [lossExpiry_clear h, raise_pending, faultOpenWindow_eq]
    rfl

@[simp] theorem sampleLossEvent_pending : (sampleLossEvent s).pending = s.pending := by
  unfold sampleLossEvent
  split <;> simp

@[simp] theorem storeSampleRate_pending (r : Nat) : (storeSampleRate r s).pending = s.pending := by
  unfold storeSampleRate
  dsimp only
  split
  · split <;> simp
  · rfl

/-! ### Tracking Unit -/

@[simp] theorem trackArrival_pending (e : Count) : (trackArrival e s).pending = s.pending := by
  rw [trackArrival_onlyArrival]

@[simp] theorem openOwner_pending (o : WindowOwner) : (openOwner o s).pending = s.pending :=
  (engineOpen_spec { s with track.owner := some { o with opened := true } }).1.pending

@[simp] theorem closeOwner_pending : (closeOwner s).pending = s.pending := by
  unfold closeOwner engineClose
  split
  · obtain ⟨c, x, hx⟩ := finishWindow_eq _ _ _ _ _ { s with track.owner := none, weigh.slot := .none }
    rw [hx]
    rfl
  · rfl

@[simp] theorem ownerPoints_pending (n : Serial) : (ownerPoints n s).pending = s.pending := by
  unfold ownerPoints
  extract_lets opened
  have hopened : opened.pending = s.pending := by
    unfold opened
    split
    · split <;> simp
    · rfl
  split
  · split <;> simp [hopened]
  · exact hopened

/-- A station point keeps what its action keeps. -/
theorem takePoint_pending {act : State → State} (ha : ∀ t, (act t).pending = t.pending) (n : Serial)
    (passed : PointsPassed → Bool) (mark : PointsPassed → PointsPassed) (position : CanRecord → Option Count) :
    (takePoint n passed mark position act s).pending = s.pending := by
  unfold takePoint
  split
  · rfl
  · split
    · rfl
    · split <;> simp [ha]

@[simp] theorem eyeClose_pending (n : Serial) : (eyeClose n s).pending = s.pending := by
  unfold eyeClose loseRecord
  split
  · rfl
  · split <;> simp

@[simp] theorem exitRecord_pending (n : Serial) : (exitRecord n s).pending = s.pending := by
  unfold exitRecord
  dsimp only
  split <;> simp

theorem recordPoints_pending (n : Serial) : (recordPoints s n).pending = s.pending := by
  unfold recordPoints
  extract_lets afterPrint afterTrigger afterReader afterEye afterOwner afterGate
  have hPrint : afterPrint.pending = s.pending := takePoint_pending s (printPoint_pending · n) ..
  have hTrigger : afterTrigger.pending = s.pending :=
    (takePoint_pending afterPrint triggerPoint_pending ..).trans hPrint
  have hReader : afterReader.pending = s.pending :=
    (takePoint_pending afterTrigger (writeCode_pending · n .noread) ..).trans hTrigger
  have hEye : afterEye.pending = s.pending :=
    (takePoint_pending afterReader (eyeClose_pending · n) ..).trans hReader
  have hOwner : afterOwner.pending = s.pending := (ownerPoints_pending afterEye n).trans hEye
  have hGate : afterGate.pending = s.pending :=
    (takePoint_pending afterOwner (gateDecision_pending · n) ..).trans hOwner
  exact (takePoint_pending afterGate (exitRecord_pending · n) ..).trans hGate

/-- An operation taken along a list keeps what it keeps once. -/
theorem foldl_pending {α : Type} {f : State → α → State} (hf : ∀ t a, (f t a).pending = t.pending)
    (l : List α) : (l.foldl f s).pending = s.pending := by
  induction l generalizing s with
  | nil => rfl
  | cons a l ih => exact (ih (f s a)).trans (hf s a)

@[simp] theorem positionEvent_pending (d : Direction) : (positionEvent d s).pending = s.pending := by
  unfold positionEvent
  split
  · exact foldl_pending s recordPoints_pending _
  · rfl

@[simp] theorem startLine_pending : (startLine s).2.pending = s.pending := by
  unfold startLine
  split
  · rfl
  · split <;> simp

@[simp] theorem stopLine_pending : (stopLine s).pending = s.pending := by
  cases h : s.track.line with
  | idle => rw [stopLine_idle h]
  | run => rw [stopLine_run h, raise_pending]

theorem lineReset_pending {reply : State → State} (h : OnlyReplies reply) :
    (lineReset reply s).pending = s.pending := by rw [lineReset_eq h]

/-! ### Input Unit -/

@[simp] theorem homeEdge_pending : (homeEdge s).pending = s.pending := by
  unfold homeEdge
  dsimp only
  split
  · rfl
  · split <;> simp

@[simp] theorem deliverEdge_pending (i : Input) (b : Bool) : (deliverEdge i b s).pending = s.pending := by
  unfold deliverEdge
  split
  · rw [dischargeEdge_frame]
    rfl
  · exact homeEdge_pending s
  · exact trackArrival_pending ..
  · exact confirmAt_pending ..
  · rfl

@[simp] theorem acceptInput_pending (i : Input) : (acceptInput i s).pending = s.pending := deliverEdge_pending ..

@[simp] theorem inputPinEvent_pending (i : Input) (b : Bool) : (inputPinEvent i b s).pending = s.pending := by
  unfold inputPinEvent
  dsimp only
  split
  · rfl
  · split
    · split <;> simp
    · rfl

@[simp] theorem holdTimerEvent_pending (i : Input) (b : Bool) : (holdTimerEvent i b s).pending = s.pending := by
  unfold holdTimerEvent
  dsimp only
  split
  · split <;> simp
  · rfl

@[simp] theorem countStep_pending : (countStep s).2.pending = s.pending := by rw [countStep_frame]

@[simp] theorem deliverStep_pending (d : Option Direction) : (deliverStep d s).pending = s.pending := by
  unfold deliverStep
  split <;> simp

@[simp] theorem acceptPair_pending : (acceptPair s).pending = s.pending := by
  unfold acceptPair
  simp

@[simp] theorem encoderPinEvent_pending (a b : Bool) : (encoderPinEvent a b s).pending = s.pending := by
  unfold encoderPinEvent
  dsimp only
  split_ifs <;> simp

@[simp] theorem encoderStepEvent_pending : (encoderStepEvent s).pending = s.pending := by
  unfold encoderStepEvent
  split <;> simp

@[simp] theorem arrivalEvent_pending (b : Bool) : (arrivalEvent b s).pending = s.pending := by
  unfold arrivalEvent arrivalWithStep
  split
  · split
    · split <;> simp
    · rfl
  · simp

@[simp] theorem storeFilterTime_pending (w : FilterInput) (n : Nat) : (storeFilterTime w n s).pending = s.pending := by
  cases w with
  | discrete i =>
    show (storeInputTime i n s).pending = s.pending
    unfold storeInputTime
    dsimp only
    split
    · split <;> simp
    · rfl
  | encoder =>
    show (storeEncoderTime n s).pending = s.pending
    unfold storeEncoderTime
    dsimp only
    split
    · split <;> simp
    · rfl

/-! ### Tables -/

/-- A TABLE WRITE keeps what the store of its entries keeps. -/
theorem writeTable_pending {store : List Entry → State → State} (hs : ∀ t es, (store es t).pending = t.pending)
    (id : Nat) (refuse : List Entry → State → Option Refused) (first count : Byte) (d : List Byte) :
    (writeTable id refuse store first count d s).pending = s.pending := by
  cases ht : tableShape id with
  | none =>
    simp only [writeTable, ht]
    exact appendReply_pending ..
  | some shape =>
    rcases writeTable_cases id refuse store first count d s shape ht with ⟨st, x, e⟩ | ⟨-, e⟩ <;> simp [e, hs]

/-- Entries stored one by one keep what storing one keeps. -/
theorem storeEach_pending {store : Entry → State → State} (hs : ∀ t e, (store e t).pending = t.pending)
    (es : List Entry) : (storeEach store es s).pending = s.pending := foldl_pending s hs es

@[simp] theorem storeSetting_pending (e : Entry) : (storeSetting e s).pending = s.pending := by
  unfold storeSetting
  dsimp only
  split <;> simp

theorem storeSettings_pending (es : List Entry) : (storeSettings es s).pending = s.pending :=
  storeEach_pending s storeSetting_pending es

theorem storeModes_pending (es : List Entry) : (storeModes es s).pending = s.pending :=
  storeEach_pending s (fun t e => storeMode_pending t e.1 _) es

theorem storeRules_pending (es : List Entry) : (storeRules es s).pending = s.pending := by
  unfold storeRules
  refine storeEach_pending s (fun t e => ?_) es
  rfl

variable (first count : Byte) (d : List Byte)

@[simp] theorem writeStations_pending : (writeStations first count d s).pending = s.pending :=
  writeTable_pending (store := storeStations) s (fun _ _ => rfl) ..

@[simp] theorem writeSettings_pending : (writeSettings first count d s).pending = s.pending :=
  writeTable_pending s storeSettings_pending ..

@[simp] theorem writeDistances_pending : (writeDistances first count d s).pending = s.pending :=
  writeTable_pending (store := storeDistances) s (fun _ _ => rfl) ..

@[simp] theorem writeRules_pending : (writeRules first count d s).pending = s.pending :=
  writeTable_pending s storeRules_pending ..

@[simp] theorem writeProducts_pending : (writeProducts first count d s).pending = s.pending :=
  writeTable_pending (store := storeProducts) s (fun _ _ => rfl) ..

@[simp] theorem writeModes_pending : (writeModes first count d s).pending = s.pending :=
  writeTable_pending s storeModes_pending ..

@[simp] theorem writeTestWeights_pending : (writeTestWeights first count d s).pending = s.pending :=
  writeTable_pending (store := storeTestWeights) s (fun _ _ => rfl) ..

@[simp] theorem writeEvents_pending : (writeEvents first count d s).pending = s.pending :=
  writeTable_pending (store := storeEvents) s (fun _ _ => rfl) ..

@[simp] theorem performTableWrite_pending : (performTableWrite d s).pending = s.pending := by
  unfold performTableWrite
  split
  · split <;> simp [reply]
  · exact appendReply_pending ..

/-! ### Requests and actions -/

@[simp] theorem performTableRead_pending : (performTableRead d s).pending = s.pending := appendReply_pending ..

@[simp] theorem performIdentify_pending : (performIdentify d s).pending = s.pending := by
  unfold performIdentify reply
  split <;> simp

@[simp] theorem unknownKindEvent_pending (k : Byte) : (unknownKindEvent k s).pending = s.pending := by
  unfold unknownKindEvent reply
  split <;> simp

/-- A request keeps what its performance keeps. -/
theorem takeRequest_pending {perform : State → State} (hp : ∀ t, (perform t).pending = t.pending) (src k : Byte) :
    (takeRequest src k perform s).pending = s.pending := by
  unfold takeRequest
  dsimp only
  split_ifs <;> simp [hp]

@[simp] theorem actionReply_pending (code : Byte) (st : Status) (x : Byte) :
    (actionReply code st x s).pending = s.pending := appendReply_pending ..

@[simp] theorem testModeOn_pending : (testModeOn s).2.pending = s.pending := by
  unfold testModeOn
  split_ifs <;> rfl

@[simp] theorem actStart_pending : (actStart s).pending = s.pending :=
  (actionReply_pending ..).trans (startLine_pending s)

@[simp] theorem actStop_pending : (actStop s).pending = s.pending := (actionReply_pending ..).trans (stopLine_pending s)

@[simp] theorem actLineReset_pending : (actLineReset s).pending = s.pending :=
  lineReset_pending s appendsReplies_lineReset.frame

@[simp] theorem actSelectProduct_pending (c : BitVec 16) : (actSelectProduct c s).pending = s.pending :=
  (actionReply_pending ..).trans (selectProduct_pending s c)

@[simp] theorem actZero_pending : (actZero s).pending = s.pending := by
  unfold actZero
  split <;> simp

@[simp] theorem actClearStop_pending : (actClearStop s).pending = s.pending := actionReply_pending ..

@[simp] theorem actClearEvents_pending (x : BitVec 32) : (actClearEvents x s).pending = s.pending :=
  actionReply_pending ..

@[simp] theorem actValveRelease_pending (v : Byte) : (actValveRelease v s).pending = s.pending :=
  (actionReply_pending ..).trans (releaseValve_pending s v.toNat)

@[simp] theorem actValveClear_pending (v : Byte) : (actValveClear v s).pending = s.pending :=
  (actionReply_pending ..).trans (clearValve_pending s v.toNat)

@[simp] theorem actTestOn_pending : (actTestOn s).pending = s.pending :=
  (actionReply_pending ..).trans (testModeOn_pending s)

@[simp] theorem actTestOff_pending : (actTestOff s).pending = s.pending := actionReply_pending ..

@[simp] theorem actClearCounters_pending : (actClearCounters s).pending = s.pending := actionReply_pending ..

@[simp] theorem actStopRequest_pending : (actStopRequest s).pending = s.pending :=
  (actionReply_pending ..).trans (postCause_pending s .requested)

@[simp] theorem performCode_pending (code : Byte) : (performCode code d s).pending = s.pending := by
  unfold performCode
  split <;> simp

@[simp] theorem performAction_pending : (performAction d s).pending = s.pending := by
  unfold performAction
  split
  · simp
  · split
    · simp
    · split <;> simp

@[simp] theorem manageFrame_pending (src k : Byte) : (manageFrame src k d s).pending = s.pending := by
  unfold manageFrame
  split_ifs <;> exact takeRequest_pending s (by simp) ..

end

/-! ### Pass Stage -/

section
variable (s : State) (f : List Byte)

@[simp] theorem addressedFrame_pending : (addressedFrame f s).pending = s.pending := by
  unfold addressedFrame
  dsimp only
  split_ifs <;> simp

@[simp] theorem snoopCopy_pending : (snoopCopy f s).pending = s.pending := by
  unfold snoopCopy
  split_ifs <;> simp

theorem rewritePair_pending (p : List Byte) : (rewritePair p s).2.pending = s.pending := by
  unfold rewritePair
  dsimp only
  split
  · exact captureBase_pending ..
  · rfl

theorem rewritePairs_pending (ps : List (List Byte)) : (rewritePairs ps s).2.pending = s.pending := by
  induction ps generalizing s with
  | nil => rfl
  | cons p ps ih => exact (ih (rewritePair p s).2).trans (rewritePair_pending s p)

@[simp] theorem rewriteFrame_pending : (rewriteFrame f s).2.pending = s.pending := rewritePairs_pending ..

@[simp] theorem trimDecision_pending : (trimDecision f s).pending = s.pending := by
  unfold trimDecision
  dsimp only
  split_ifs <;> simp

@[simp] theorem passFrame_pending : (passFrame f s).pending = s.pending := by
  unfold passFrame
  split
  · simp
  · split
    · rfl
    · split
      · simp
      · split <;> simp

end

/-! ### Ring Port -/

section
variable (s : State)

@[simp] theorem completeFrame_pending (f : List Byte) (b : Bool) : (completeFrame f b s).pending = s.pending := by
  unfold completeFrame
  dsimp only
  split_ifs <;> simp

@[simp] theorem extendFrame_pending (f : List Byte) (b : Bool) : (extendFrame f b s).pending = s.pending := by
  unfold extendFrame
  split_ifs <;> simp

@[simp] theorem assemble_pending (d : Byte) (mark sound noisy : Bool) :
    (assemble d mark sound noisy s).pending = s.pending := by
  unfold assemble
  split <;> split_ifs <;> simp

@[simp] theorem falseStart_pending : (falseStart s).pending = s.pending := by
  unfold falseStart
  dsimp only
  split <;> rfl

@[simp] theorem falseStartEvent_pending : (falseStartEvent s).pending = s.pending := by
  unfold falseStartEvent
  split <;> simp

@[simp] theorem ringBreakDetected_pending : (ringBreakDetected s).pending = s.pending := by
  rw [ringBreakDetected_frame]
  rfl

@[simp] theorem ringBreakEvent_pending : (ringBreakEvent s).pending = s.pending := by
  unfold ringBreakEvent
  split <;> simp

@[simp] theorem ringCharacterEvent_pending (c : RingSamples) : (ringCharacterEvent c s).pending = s.pending := by
  unfold ringCharacterEvent
  split
  · rfl
  · split <;> simp

@[simp] theorem frameCompleteEvent_pending (d : Byte) (b : Bool) : (frameCompleteEvent d b s).pending = s.pending := by
  unfold frameCompleteEvent
  split
  · split <;> simp
  all_goals rfl

@[simp] theorem breakEnds_pending (start len : Nat) : (breakEnds start len s).pending = s.pending := by
  rw [breakEnds_eq, recordBreak_frame]
  rfl

@[simp] theorem resyncEvent_pending (len : Nat) : (resyncEvent len s).pending = s.pending := by
  unfold resyncEvent
  split
  · split <;> simp
  · rfl

@[simp] theorem longBreakEvent_pending : (longBreakEvent s).pending = s.pending := by
  unfold longBreakEvent
  split
  · exact lineReset_pending _ appendsReplies_none.frame
  · rfl

@[simp] theorem longBreakEndEvent_pending (len : Nat) : (longBreakEndEvent len s).pending = s.pending := by
  unfold longBreakEndEvent
  split <;> simp

@[simp] theorem interCharacterEvent_pending (low : Ticks) : (interCharacterEvent low s).pending = s.pending := by
  rw [interCharacterEvent_frame]

@[simp] theorem gapEvent_pending : (gapEvent s).pending = s.pending := by
  unfold gapEvent
  split <;> rfl

@[simp] theorem frameSentEvent_pending : (frameSentEvent s).pending = s.pending := by
  unfold frameSentEvent
  split
  · dsimp only
    split <;> rfl
  · rfl

@[simp] theorem relayEndEvent_pending : (relayEndEvent s).pending = s.pending := by
  unfold relayEndEvent
  split
  · split <;> rfl
  · rfl

@[simp] theorem noticeRetryEvent_pending : (noticeRetryEvent s).pending = s.pending := by
  have h := queueNotice_pending s
  unfold noticeRetryEvent
  split
  · split <;> rename_i e <;> rw [e] at h <;> exact h
  · rfl

end

/-! ## Every command -/

/-- The command answers a next state with the same waiting commands. -/
def AnswersNext (c : Instr) (s : State) : Prop := ∃ t, exec c s = .next t ∧ t.pending = s.pending

section
variable {c : Instr} {s : State} {f : State → State}

/-- A command whose event leaves the waiting commands alone answers the state as it is while RESET is low, and the state
after the event and the arbiter's choice otherwise. -/
theorem AnswersNext.event (hf : ∀ t, (f t).pending = t.pending) (he : exec c s = event f s) : AnswersNext c s := by
  cases h : s.resetLow with
  | true => exact ⟨s, he.trans (event_asleep h), rfl⟩
  | false => exact ⟨Machine.arbitrate (f s), he.trans (event_awake h), (arbitrate_pending (f s)).trans (hf s)⟩

/-- A request command is an event whose performance decides. -/
theorem AnswersNext.request {src kind : Byte} (hp : ∀ t, (f t).pending = t.pending)
    (he : exec c s = Machine.event (takeRequest src kind f) s) : AnswersNext c s :=
  .event (fun t => takeRequest_pending t hp src kind) he

end

theorem AnswersNext.resetAsserted (s : State) : AnswersNext .resetAsserted s := by
  cases h : s.resetLow with
  | true => exact ⟨s, if_pos h, rfl⟩
  | false => exact ⟨_, if_neg (by simp [h]), rfl⟩

/-- Every command answers a next state and leaves the waiting commands alone (log 25). -/
theorem answersNext (c : Instr) (s : State) : AnswersNext c s := by
  cases c with
  | hardReset p => exact ⟨State.afterReset p s.pending, rfl, rfl⟩
  | resetAsserted => exact .resetAsserted s
  | ringCharacter c => exact .event (ringCharacterEvent_pending · c) rfl
  | frameComplete d b => exact .event (frameCompleteEvent_pending · d b) rfl
  | interCharacterTimeout low => exact .event (interCharacterEvent_pending · low) rfl
  | ringBreak => exact .event ringBreakEvent_pending rfl
  | resync len => exact .event (resyncEvent_pending · len) rfl
  | longBreak => exact .event longBreakEvent_pending rfl
  | longBreakEnd len => exact .event (longBreakEndEvent_pending · len) rfl
  | gap => exact .event gapEvent_pending rfl
  | frameSent => exact .event frameSentEvent_pending rfl
  | relayEnd => exact .event relayEndEvent_pending rfl
  | noticeRetry => exact .event noticeRetryEvent_pending rfl
  | ringFalseStart => exact .event falseStartEvent_pending rfl
  | inputPinChange i b => exact .event (inputPinEvent_pending · i b) rfl
  | discharge => exact .event (holdTimerEvent_pending · .discharge true) rfl
  | homeEdge => exact .event (holdTimerEvent_pending · .home true) rfl
  | confirmEvent => exact .event (holdTimerEvent_pending · .confirmEye true) rfl
  | acceptedFallingEdge i => exact .event (holdTimerEvent_pending · i false) rfl
  | pocketChange => exact .event (fun t => holdTimerEvent_pending t .pocket t.input.pocket.pin) rfl
  | arrival b => exact .event (arrivalEvent_pending · b) rfl
  | encoderPinChange a b => exact .event (encoderPinEvent_pending · a b) rfl
  | encoderStep => exact .event encoderStepEvent_pending rfl
  | sampleFrame p => exact .event (sampleFrameEvent_pending · p) rfl
  | shortFrame => exact .event shortFrameEvent_pending rfl
  | sampleLoss => exact .event sampleLossEvent_pending rfl
  | codeCharacter p => exact .event (codeCharacterEvent_pending · p) rfl
  | codeBreak => exact .event codeBreakEvent_pending rfl
  | codeBreakEnd => exact .event codeBreakEndEvent_pending rfl
  | codeLineHigh => exact .event codeLineHighEvent_pending rfl
  | idleTimerExpiry => exact .event idleTimerEvent_pending rfl
  | triggerSent high => exact .event (triggerSentEvent_pending · high) rfl
  | exchangeTimeout v =>
    refine .event
      (f := fun t => if 1 ≤ v.toNat && v.toNat ≤ Config.valves then exchangeTimeoutEvent v.toNat t else t)
      (fun t => ?_) rfl
    split <;> simp
  | rejectPulseExpiry => exact .event rejectPulseEvent_pending rfl
  | fillAck k g v x =>
    refine .event (f := fun t => if repeaterOnly t then t else takeAck k g v x t) (fun t => ?_) rfl
    split <;> simp
  | unknownKindRequest k => exact .event (unknownKindEvent_pending · k) rfl
  | identify src d => exact .request (performIdentify_pending · d) rfl
  | tableRead src d => exact .request (performTableRead_pending · d) rfl
  | stationsWrite src first count d => exact .request (writeStations_pending · first count d) rfl
  | distancesWrite src first count d => exact .request (writeDistances_pending · first count d) rfl
  | passRulesWrite src first count d => exact .request (writeRules_pending · first count d) rfl
  | productsWrite src first count d => exact .request (writeProducts_pending · first count d) rfl
  | valveModeWrite src first count d => exact .request (writeModes_pending · first count d) rfl
  | testWeightsWrite src first count d => exact .request (writeTestWeights_pending · first count d) rfl
  | eventsWrite src first count d => exact .request (writeEvents_pending · first count d) rfl
  | settingsWrite src first count d => exact .request (writeSettings_pending · first count d) rfl
  | valveCountWrite | filterTimeWrite | sampleRateWrite | weighingSettingsWrite | calibrationFactorWrite
  | lotStringWrite | codePortConfigWrite | codePortEnable => exact .request (writeSettings_pending · _ 1 _) rfl
  | badTableWrite src d => exact .request (performTableWrite_pending · d) rfl
  | start => exact .request actStart_pending rfl
  | stop => exact .request actStop_pending rfl
  | lineResetAction => exact .request actLineReset_pending rfl
  | selectProduct src code => exact .request (actSelectProduct_pending · code) rfl
  | zero => exact .request actZero_pending rfl
  | clearStop => exact .request actClearStop_pending rfl
  | clearEvents src set => exact .request (actClearEvents_pending · set) rfl
  | valveRelease src v => exact .request (actValveRelease_pending · v) rfl
  | valveClear src v => exact .request (actValveClear_pending · v) rfl
  | testOn => exact .request actTestOn_pending rfl
  | testOff => exact .request actTestOff_pending rfl
  | clearCounters => exact .request actClearCounters_pending rfl
  | stopRequest => exact .request actStopRequest_pending rfl
  | unknownActionCode src d => exact .request (performAction_pending · d) rfl

/-! ## The step -/

theorem step_front {s : State} {c : Instr} {rest : List Instr} (h : s.pending = c :: rest) :
    step s = exec c { s with pending := rest } := by
  simp only [step, h]

/-- With no command waiting, one clock unit passes (log 2). -/
theorem step_idle {s : State} (h : s.pending = []) : step s = .next { s with now := s.now + 1 } := by
  simp only [step, h, advanceTo, Nat.max_eq_right (Nat.le_succ s.now)]

/-- Settles O1: a step with a command at the front of the queue is the meaning of that command. -/
theorem stepRunsFrontCommand : Obligations.StepRunsFrontCommand := fun _ _ _ => step_front

/-- Settles O2: every event leaves the waiting commands alone, and so do the arbiter and the two commands of the RESET
pin. -/
theorem everyStepAnswersNext : Obligations.EveryStepAnswersNext := ⟨answersNext, fun _ => step_idle⟩

end Sys2Proof.Machine
end
